-- ==== Sys2Proof/Word.lean ====
section
/-! DEFINITION. The word types of the 612 (spec/00_scope.md section 4.4): bytes of cells, 16-bit samples,
36-bit positions, 32-bit line numbers, 16-bit serials and offer numbers. -/

namespace Sys2Proof

/-- One byte of a cell. -/
abbrev Byte := BitVec 8

/-- A 16-bit unsigned sample, 0 to 65,535 (section 4.4). -/
abbrev Sample := BitVec 16

/-- A position in sixteenths of a line, 36 bits (section 4.4: pu). -/
abbrev Position := BitVec 36

/-- A line number as the transport counts lines, 32 bits (section 4.4). -/
abbrev LineNumber := BitVec 32

/-- A pass serial, 16 bits (R1). -/
abbrev Serial := BitVec 16

/-- An offer number, 16 bits (R145). -/
abbrev OfferNumber := BitVec 16

end Sys2Proof
end

