-- ==== Sys2Proof/Config.lean ====
section
/-! DEFINITION. What the part fixes: the capacities of R178 and the limits the chapters name, and the one
free value of the model (a constant without a body, log entry 4). -/

namespace Sys2Proof.Config

/-- Revision number of the part (R178). -/
def revision : Nat := 3

/-- Slots of the Frame Store (R46). -/
def slotCount : Nat := 24

/-- Slots one lane may hold (R50). -/
def laneSlotLimit : Nat := 16

/-- Slots kept within reach of each lane (R50). -/
def laneQuota : Nat := 4

/-- Lines the strip buffer holds (R26). -/
def stripDepth : Nat := 8192

/-- Highest frame number (R11). -/
def lastFrame : Nat := 16777215

/-- Grade banks (R101). -/
def bankCount : Nat := 8

/-- Entries of a curve (R101). -/
def curveEntries : Nat := 257

/-- Positions of a cue list (R105). -/
def cuePositions : Nat := 64

/-- Classifier rules of a lane (R76). -/
def ruleCount : Nat := 16

/-- Shelf entries of a lane (R137). -/
def shelfCount : Nat := 32

/-- Defect records kept for a frame (R72). -/
def keptRecords : Nat := 32

/-- Offers of a lane (R139). -/
def offerLimit : Nat := 4

/-- REPLY cells the reply queue holds (R172). -/
def replyQueueSize : Nat := 8

/-- NOTICE cells the notice queue holds (R176). -/
def noticeQueueSize : Nat := 16

/-- Positions a splice list holds (R36). -/
def spliceLimit : Nat := 16

/-- Pixels a LINE cell is taken to carry at most (R23). -/
def lineCellPixels : Nat := 29

/-- Pixels of a full FRAME_DATA cell (R146). -/
def frameDataPixels : Nat := 30

/-- One in ratio units (section 4.4). -/
def ratioOne : Nat := 1048576

/-- Lower clamp of the measured ratio (R39). -/
def ratioLow : Nat := 983040

/-- Upper clamp of the measured ratio (R39). -/
def ratioHigh : Nat := 1064960

/-- Gaps one relock may issue (R35). -/
def relockGapLimit : Nat := 1024

/-- A value the spec leaves unstated, free: nothing constrains it (log entry 4). Its index is the state's
counter of free values. Used for the two base density bytes of a FRAME_HEAD whose frame has "no sample". -/
opaque freeWord : Nat → BitVec 16

end Sys2Proof.Config
end

