-- ==== Sys2Proof/Syntax.lean ====
section
/-! DEFINITION. The commands of the 612: one constructor of `Instr` for each row of spec/opcode_table.json, with
the operands the spec gives it (cells by their fields: R23, R30, R36, R148, R171; see also R179 to R183). -/

namespace Sys2Proof

/-- A lane, and the intake port of its transport (R1). -/
inductive Lane where
  | a
  | b
deriving DecidableEq, Repr

/-- One of the three links (R169). -/
inductive Link where
  | intake (port : Lane)
  | archive
deriving DecidableEq, Repr

/-- Four samples of one column of one line (section 4.4, R23). -/
structure Pixel where
  r : Sample
  g : Sample
  b : Sample
  ir : Sample
deriving DecidableEq, Repr

/-- Film tension of a TRANSPORT cell (R36). -/
inductive Tension where
  | normal
  | slack
  | tight
deriving DecidableEq, Repr

/-- What a COMMAND cell carries beside its code: the header's lane and tag bytes and the payload (R171, R179). -/
structure CommandCell where
  lane : Byte
  tag : Byte
  payload : List Byte
deriving DecidableEq, Repr

/-- How far the sending of one archive cell goes in an ARCHIVE_CELL_SENT (R154, R167): the cell slot is given
and the sending has begun, or the cell has been sent whole. -/
inductive SendExtent where
  | begun
  | whole
deriving DecidableEq, Repr

/-- The commands, one constructor for each row of spec/opcode_table.json. -/
inductive Instr where
  /-- POWER_ON_RESET: the reset input is released, having been held low for 1 ms or not (R185). -/
  | powerOnReset (heldLongEnough : Bool)
  /-- ARCHIVE_LINK_RESET (R169). -/
  | archiveLinkReset
  /-- ARCHIVE_LINK_UP (R169). -/
  | archiveLinkUp
  /-- INTAKE_LINK_RESET (R28, R169). -/
  | intakeLinkReset (port : Lane)
  /-- INTAKE_LINK_UP (R133, R169). -/
  | intakeLinkUp (port : Lane)
  /-- CELL_CHECK_DROP: the 256 bytes of the cell that arrived (R170). -/
  | cellCheckDrop (link : Link) (bytes : List Byte)
  /-- LINE_CELL (R23). -/
  | lineCell (port : Lane) (number : LineNumber) (pixels : List Pixel) (last : Bool)
  /-- PERF_CELL (R30). -/
  | perfCell (port : Lane) (position : Position)
  /-- TRANSPORT_CELL (R36). -/
  | transportCell (port : Lane) (tension : Tension) (splice : Option Position)
  /-- STORE_ACK: lane byte, offer number and result byte as the cell has them (R148). -/
  | storeAck (lane : Byte) (offer : OfferNumber) (result : Byte)
  /-- SILENCE_EXPIRY (R27). -/
  | silenceExpiry (port : Lane)
  /-- ACK_TIMEOUT_EXPIRY of one outstanding offer (R150). -/
  | ackTimeoutExpiry (lane : Lane) (offer : OfferNumber)
  /-- DETECTION_END (R79). -/
  | detectionEnd
  /-- REPAIR_END (R95). -/
  | repairEnd
  /-- GRADING_END (R118). -/
  | gradingEnd
  /-- ARCHIVE_CELL_SENT (R154). -/
  | archiveCellSent (extent : SendExtent)
  /-- PACE_CELL_SENT (R133). -/
  | paceCellSent (port : Lane)
  /-- COMMAND_OVERRUN: a COMMAND cell of any code against the credit (R172). -/
  | commandOverrun (code : Byte) (cell : CommandCell)
  /-- UNKNOWN_COMMAND: a COMMAND cell whose code is not in the command table (R171). -/
  | unknownCommand (code : Byte) (cell : CommandCell)
  /-- BEGIN_REEL (R6). -/
  | beginReel (cell : CommandCell)
  /-- END_REEL (R12). -/
  | endReel (cell : CommandCell)
  /-- ABORT_REEL (R16). -/
  | abortReel (cell : CommandCell)
  /-- RESET_LANE (R19). -/
  | resetLane (cell : CommandCell)
  /-- LOAD_PROFILE (R4). -/
  | loadProfile (cell : CommandCell)
  /-- WRITE_RULES (R77). -/
  | writeRules (cell : CommandCell)
  /-- WRITE_BANK (R102). -/
  | writeBank (cell : CommandCell)
  /-- WRITE_CUES (R106). -/
  | writeCues (cell : CommandCell)
  /-- COMMIT_CUES (R107). -/
  | commitCues (cell : CommandCell)
  /-- CANCEL_CUES (R108). -/
  | cancelCues (cell : CommandCell)
  /-- WRITE_HOUSING (R164). -/
  | writeHousing (cell : CommandCell)
  /-- SET_ALARM (R130). -/
  | setAlarm (cell : CommandCell)
  /-- ACK_ALARM (R129). -/
  | ackAlarm (cell : CommandCell)
  /-- SET_PACE_MARKS (R63). -/
  | setPaceMarks (cell : CommandCell)
  /-- WRITE_SHELF (R138). -/
  | writeShelf (cell : CommandCell)
  /-- SHELF_CONFIG (R140). -/
  | shelfConfig (cell : CommandCell)
  /-- SHELF_START (R142). -/
  | shelfStart (cell : CommandCell)
  /-- SHELF_PAUSE (R141). -/
  | shelfPause (cell : CommandCell)
  /-- SHELF_RESUME (R141). -/
  | shelfResume (cell : CommandCell)
  /-- SHELF_STOP (R143). -/
  | shelfStop (cell : CommandCell)
  /-- READ_LANE (R177). -/
  | readLane (cell : CommandCell)
  /-- READ_SHELF (R157). -/
  | readShelf (cell : CommandCell)
  /-- READ_CONDITION (R168). -/
  | readCondition (cell : CommandCell)
  /-- READ_FIRST_UNREPAIRABLE (R98). -/
  | readFirstUnrepairable (cell : CommandCell)
  /-- QUERY_PART (R178). -/
  | queryPart (cell : CommandCell)
  /-- SET_NOTICES (R175). -/
  | setNotices (cell : CommandCell)
  /-- RESET_INPUT_LOW (R185). -/
  | resetInputLow
deriving DecidableEq, Repr

end Sys2Proof
end

