-- ==== Sys2Proof/Decode.lean ====
section
/-! DEFINITION. Bytes and cells: byte order and header check (R170), the cell layout (R179), which inbound cell
is dropped (R170), and which command an arriving cell is (R171, R174, R180 to R182). The opcode table gives its rows no
bits, so `decodeTableWord` answers none for every word. -/

namespace Sys2Proof

/-- The `n` bytes of `v`, least significant byte first (R170). -/
def leBytes (n v : Nat) : List Byte :=
  (List.range n).map fun i => BitVec.ofNat 8 (v / 256 ^ i)

/-- The number that bytes sent least significant first spell (R170). -/
def leNumber : List Byte → Nat
  | [] => 0
  | b :: rest => b.toNat + 256 * leNumber rest

/-- The number in the `n` bytes of `p` from byte `start` on; bytes beyond the end do not count. -/
def leField (p : List Byte) (start n : Nat) : Nat :=
  leNumber ((p.drop start).take n)

/-- One bit shift of the CRC-16 with generator 0x1021 (R170). -/
def crcShift (c : BitVec 16) : BitVec 16 :=
  if c.msb then (c <<< 1) ^^^ 0x1021#16 else c <<< 1

/-- One byte fed to the CRC, most significant bit first (R170). -/
def crcByte (c : BitVec 16) (b : Byte) : BitVec 16 :=
  (List.replicate 8 ()).foldl (fun x _ => crcShift x) (c ^^^ ((b.setWidth 16) <<< 8))

/-- The header check over the bytes it is taken over (R170): initial value 0xFFFF, final XOR 0. -/
def crc16 (bytes : List Byte) : BitVec 16 :=
  bytes.foldl crcByte 0xFFFF#16

/-- Kind bytes of R179. -/
def kindLine : Byte := 0x01#8
/-- PERF (R179). -/
def kindPerf : Byte := 0x02#8
/-- TRANSPORT (R179). -/
def kindTransport : Byte := 0x03#8
/-- PACE (R179). -/
def kindPace : Byte := 0x04#8
/-- COMMAND (R179). -/
def kindCommand : Byte := 0x10#8
/-- REPLY (R179). -/
def kindReply : Byte := 0x11#8
/-- NOTICE (R179). -/
def kindNotice : Byte := 0x12#8
/-- CONDITION (R179). -/
def kindCondition : Byte := 0x13#8
/-- FRAME_HEAD (R179). -/
def kindFrameHead : Byte := 0x14#8
/-- FRAME_DATA (R179). -/
def kindFrameData : Byte := 0x15#8
/-- FRAME_GAP (R179). -/
def kindFrameGap : Byte := 0x16#8
/-- STORE_ACK (R179). -/
def kindStoreAck : Byte := 0x17#8

/-- A cell by its fields (R179): kind, lane and tag bytes, kind-specific word, payload. -/
structure Cell where
  kind : Byte
  lane : Byte
  tag : Byte
  word : Nat
  payload : List Byte
deriving DecidableEq, Repr

/-- Bytes 0 to 5 of a cell (R179); byte 3 is 0 in every cell sent. -/
def cellFront (c : Cell) : List Byte :=
  [c.kind, c.lane, c.tag, 0#8] ++ leBytes 2 c.payload.length

/-- Bytes 8 to 255 of a cell (R179): the kind-specific word, the payload, zeros. -/
def cellBack (c : Cell) : List Byte :=
  leBytes 8 c.word ++ (c.payload ++ List.replicate (240 - c.payload.length) 0#8).take 240

/-- The 256 bytes of a cell as the 612 sends it, header check in bytes 6 and 7 (R170, R179). -/
def cellWire (c : Cell) : List Byte :=
  cellFront c ++ leBytes 2 (crc16 (cellFront c ++ cellBack c)).toNat ++ cellBack c

/-- What a dropped cell adds 1 to (R170). -/
inductive DropCount where
  | checkError
  | malformed
deriving DecidableEq, Repr

/-- The header check of arriving bytes holds (R170). -/
def checkHolds (bytes : List Byte) : Bool :=
  leField bytes 6 2 == (crc16 (bytes.take 6 ++ bytes.drop 8)).toNat

/-- The kinds a link carries inbound (R170). -/
def kindInbound (link : Link) (kind : Byte) : Bool :=
  match link with
  | .intake _ => kind == kindLine || kind == kindPerf || kind == kindTransport
  | .archive => kind == kindCommand || kind == kindStoreAck

/-- Byte 0 of a cell. -/
def byteAt (p : List Byte) (i : Nat) : Byte := p.getD i 0#8

/-- The payload length field of arriving bytes (R179). -/
def payloadLength (bytes : List Byte) : Nat := leField bytes 4 2

/-- Why a cell that arrives is dropped, or none where it is taken (R170). -/
def dropClass (link : Link) (bytes : List Byte) : Option DropCount :=
  if !checkHolds bytes then some .checkError
  else if !kindInbound link (byteAt bytes 0) then some .malformed
  else if 240 < payloadLength bytes then some .malformed
  else if byteAt bytes 0 == kindLine && payloadLength bytes != 8 * leField bytes 12 1 then some .malformed
  else if byteAt bytes 0 == kindTransport && 2 < leField bytes 14 1 then some .malformed
  else none

/-- The payload of arriving bytes (R179). -/
def payloadOf (bytes : List Byte) : List Byte :=
  (bytes.drop 16).take (payloadLength bytes)

/-- The pixels of a LINE payload: R, G, B, IR, two bytes each (R180). -/
def pixelsOf (payload : List Byte) (count : Nat) : List Pixel :=
  (List.range count).map fun i =>
    { r := BitVec.ofNat 16 (leField payload (8 * i) 2)
      g := BitVec.ofNat 16 (leField payload (8 * i + 2) 2)
      b := BitVec.ofNat 16 (leField payload (8 * i + 4) 2)
      ir := BitVec.ofNat 16 (leField payload (8 * i + 6) 2) }

/-- The tension code of a TRANSPORT cell (R180). -/
def tensionOf (n : Nat) : Tension :=
  if n = 1 then .slack else if n = 2 then .tight else .normal

/-- The command a command code names, UNKNOWN_COMMAND for a code not in the table (R171, R174). -/
def commandOf (code : Byte) (c : CommandCell) : Instr :=
  match code.toNat with
  | 0x01 => .beginReel c
  | 0x02 => .endReel c
  | 0x03 => .abortReel c
  | 0x04 => .resetLane c
  | 0x10 => .loadProfile c
  | 0x11 => .writeRules c
  | 0x12 => .writeBank c
  | 0x13 => .writeCues c
  | 0x14 => .commitCues c
  | 0x15 => .cancelCues c
  | 0x16 => .writeHousing c
  | 0x20 => .setAlarm c
  | 0x21 => .ackAlarm c
  | 0x22 => .setPaceMarks c
  | 0x30 => .writeShelf c
  | 0x31 => .shelfConfig c
  | 0x32 => .shelfStart c
  | 0x33 => .shelfPause c
  | 0x34 => .shelfResume c
  | 0x35 => .shelfStop c
  | 0x40 => .readLane c
  | 0x41 => .readShelf c
  | 0x42 => .readCondition c
  | 0x43 => .readFirstUnrepairable c
  | 0x44 => .queryPart c
  | 0x45 => .setNotices c
  | _ => .unknownCommand code c

/-- The code is in the command table of R174. -/
def codeDefined (code : Byte) : Bool :=
  [0x01, 0x02, 0x03, 0x04, 0x10, 0x11, 0x12, 0x13, 0x14, 0x15, 0x16, 0x20, 0x21, 0x22, 0x30, 0x31, 0x32, 0x33,
    0x34, 0x35, 0x40, 0x41, 0x42, 0x43, 0x44, 0x45].contains code.toNat

/-- The command that a cell taken from an intake link is (R180). -/
def intakeArrival (port : Lane) (bytes : List Byte) : Instr :=
  let word := leField bytes 8 8
  if byteAt bytes 0 == kindLine then
    .lineCell port (BitVec.ofNat 32 word) (pixelsOf (payloadOf bytes) (leField bytes 12 1)) ((word / 2 ^ 40) % 2 == 1)
  else if byteAt bytes 0 == kindPerf then
    .perfCell port (BitVec.ofNat 36 word)
  else
    .transportCell port (tensionOf (leField bytes 14 1))
      (if (word / 2 ^ 40) % 2 = 1 then some (BitVec.ofNat 36 word) else none)

/-- The command that a cell taken from the archive link is (R171, R181, R182). -/
def archiveArrival (bytes : List Byte) : Instr :=
  if byteAt bytes 0 == kindStoreAck then
    .storeAck (byteAt bytes 1) (BitVec.ofNat 16 (leField bytes 8 2)) (byteAt bytes 10)
  else
    commandOf (byteAt bytes 8)
      { lane := byteAt bytes 1, tag := byteAt bytes 2, payload := payloadOf bytes }

/-- The command that 256 bytes arriving on a link are: CELL_CHECK_DROP where R170 drops the cell, else what its kind
says; none where there are not 256 bytes. Every cell is 256 bytes (R179). -/
def arrival (link : Link) (bytes : List Byte) : Option Instr :=
  if bytes.length ≠ 256 then none
  else match dropClass link bytes with
    | some _ => some (.cellCheckDrop link bytes)
    | none =>
      match link with
      | .intake port => some (intakeArrival port bytes)
      | .archive => some (archiveArrival bytes)

/-- The COMMAND cell of a command code, as the workstation sends it (R179, R182). -/
def commandWire (code : Byte) (c : CommandCell) : List Byte :=
  cellWire { kind := kindCommand, lane := c.lane, tag := c.tag, word := code.toNat, payload := c.payload }

/-- The command that a word spells by the table's bits: the table gives no row any bits, so none. -/
def decodeTableWord (nbits w : Nat) : Option Instr :=
  match nbits, w with
  | _, _ => none

end Sys2Proof
end

