-- ==== Sys2Proof/Machine/Types.lean ====
section
/-! DEFINITION. The records the blocks of the 612 keep, as plain data: tables, lane records, slots, offers, alarms,
condition records. Names are the spec's. -/

namespace Sys2Proof.Machine

/-- One value for each lane. -/
structure PerLane (α : Type) where
  a : α
  b : α
deriving DecidableEq, Repr

/-- The lane's value. -/
def PerLane.get {α : Type} (p : PerLane α) : Lane → α
  | .a => p.a
  | .b => p.b

/-- The value of one lane replaced. -/
def PerLane.set {α : Type} (p : PerLane α) (l : Lane) (x : α) : PerLane α :=
  match l with
  | .a => { p with a := x }
  | .b => { p with b := x }

/-- The value of one lane changed by a function. -/
def PerLane.mod {α : Type} (p : PerLane α) (l : Lane) (f : α → α) : PerLane α := p.set l (f (p.get l))

/-- The other lane. -/
def otherLane : Lane → Lane
  | .a => .b
  | .b => .a

/-- A frame of a lane's current pass, as the engines name it (R65, R82, R100). -/
structure FrameRef where
  lane : Lane
  frame : Nat
deriving DecidableEq, Repr

/-! ### Lanes and profiles -/

/-- Pass states (section 1.3). -/
inductive PassState where
  | idle
  | acquiring
  | running
  | lost
  | draining
deriving DecidableEq, Repr

/-- The lane record (R1). -/
structure LaneRecord where
  state : PassState
  serial : Serial
  reel : BitVec 32
  firstFrame : Nat
  phase : Nat
  nextFrame : Option Nat
  lastNumbered : Option Nat
  profileValid : Bool
  noticeOverflow : Bool
deriving DecidableEq, Repr

/-- Actions of a classifier rule (R76). -/
inductive Action where
  | temporal
  | spatial
  | keep
  | unrepairable
deriving DecidableEq, Repr

/-- A pair of columns (R3). -/
structure Columns where
  x0 : Nat
  x1 : Nat
deriving DecidableEq, Repr

/-- The gauge profile (R3). -/
structure Profile where
  k : Nat
  pitch : Nat
  frameOffset : Int
  width : Nat
  height : Nat
  smoothing : Nat
  irThreshold : Nat
  damageThreshold : Nat
  spatialMax : Nat
  bands : List (Option Columns)
  defaultAction : Action
  baseOffset : Nat
  baseLines : Nat
  baseColumns : Columns
  silenceCode : Nat
deriving DecidableEq, Repr

/-! ### Intake and registration -/

/-- The line in assembly: its number and the pixels received, from column 0 on (R22). -/
structure Assembly where
  number : LineNumber
  pixels : List Pixel
deriving DecidableEq, Repr

/-- The silence timer; RUNNING keeps the period in ms it was started with (R22, R27). -/
inductive SilenceTimer where
  | stopped
  | running (period : Nat)
  | expired
deriving DecidableEq, Repr

/-- Levels of occupancy and of pace (R62, R132). -/
inductive Level where
  | normal
  | slow
  | hold
deriving DecidableEq, Repr

/-- The PACE cell waiting in a port's outbound place (R133). -/
structure PaceCell where
  level : Level
  occupancy : Level
  sources : Nat
  idle : Bool
deriving DecidableEq, Repr

/-- An Intake Port: its link (R169, R170), line assembly and timer (R22), outbound place (R133). -/
structure IntakePort where
  up : Bool
  checkErrors : Nat
  malformed : Nat
  assembly : Option Assembly
  lastLine : Option LineNumber
  silence : SilenceTimer
  resumeOwed : Bool
  outOfOrder : Nat
  pacePlace : Option PaceCell
  lastPace : Option (List Byte)
deriving DecidableEq, Repr

/-- A line of the strip buffer (R26). -/
structure StripLine where
  number : LineNumber
  pixels : List Pixel
  filled : Bool
deriving DecidableEq, Repr

/-- An edge of a span, real or synthesized (R32). -/
structure Edge where
  position : Position
  synthesized : Bool
deriving DecidableEq, Repr

/-- The registration values of a closed frame (R38, R39 to R41, R47). -/
structure FrameReg where
  ratio : Nat
  span : Nat
  origin : Position
  reference : Position
  closing : Position
  interpolated : Bool
  clamped : Bool
deriving DecidableEq, Repr

/-- Select modes of a cue (R105). -/
inductive SelectMode where
  | evenOnly
  | oddOnly
  | sensed
deriving DecidableEq, Repr

/-- A cue entry (R105). -/
structure CueEntry where
  start : Nat
  even : Nat
  odd : Nat
  mode : SelectMode
  threshold : Nat
  hysteresis : Nat
  interval : Nat
deriving DecidableEq, Repr

/-- A cue stamp: the settings of the entry found, or NEUTRAL (R110). -/
inductive Stamp where
  | neutral
  | cue (e : CueEntry)
deriving DecidableEq, Repr

/-- The pending extraction (R52). -/
structure PendingFrame where
  frame : Nat
  serial : Serial
  reg : FrameReg
  stamp : Stamp
deriving DecidableEq, Repr

/-- The Registration Unit's state beside the lane record (R29); the strip holds its newest line first (R26). -/
structure RegUnit where
  strip : List StripLine
  lastEdge : Option Position
  seekRun : List Position
  lockEdges : Option Nat
  openFrame : Option (List Edge)
  lastClosing : Option Position
  prevRatio : Option Nat
  unsmoothedNext : Bool
  splices : List Position
  pendingFrame : Option PendingFrame
deriving DecidableEq, Repr

/-! ### Slots -/

/-- Stages of a held slot (R48). -/
inductive Stage where
  | extracting
  | detecting
  | awaitNeighbour
  | repairing
  | gradingWait
  | grading
  | shelfWait
  | offered
  | shelvedHeld
deriving DecidableEq, Repr

/-- Base density of a slot record (R44, R47). -/
inductive Density where
  | absent
  | noSample
  | sampled (d : Nat)
deriving DecidableEq, Repr

/-- Outcome of a defect record (R73). -/
inductive RecordOutcome where
  | repairedTemporal
  | repairedSpatial
  | kept
  | unrepairable
deriving DecidableEq, Repr

/-- A kept defect record (R73). -/
structure DefectRecord where
  x0 : Nat
  x1 : Nat
  y0 : Nat
  y1 : Nat
  area : Nat
  persistence : Bool
  bandHit : Bool
  rule : Option Nat
  action : Action
  outcome : Option RecordOutcome
deriving DecidableEq, Repr

/-- A frame's defect list (R47, R72). -/
structure DefectList where
  records : List DefectRecord
  overflow : Nat
deriving DecidableEq, Repr

/-- Repair outcome of a frame (R94). -/
inductive RepairOutcome where
  | clean
  | repaired
  | partially
deriving DecidableEq, Repr

/-- The curve set a frame is graded with (R115). -/
inductive CurveSet where
  | neutral
  | bank (n : Nat)
deriving DecidableEq, Repr

/-- The side of a lane (R116). -/
inductive Side where
  | even
  | odd
deriving DecidableEq, Repr

/-- What a grading start resolves and the graded field then holds (R115, R47). -/
structure Graded where
  curve : CurveSet
  side : Side
  bypassed : Bool
  review : Bool
deriving DecidableEq, Repr

/-- Ack state of a slot (R47). -/
inductive AckState where
  | notOffered
  | outstanding
  | acknowledged
deriving DecidableEq, Repr

/-- A held slot: its record (R47) and its picture, lines of pixels from the top (R46). -/
structure Slot where
  lane : Lane
  serial : Serial
  frame : Nat
  stage : Stage
  reg : FrameReg
  incomplete : Bool
  spliced : Bool
  density : Density
  defects : Option DefectList
  outcome : Option RepairOutcome
  stamp : Stamp
  graded : Option Graded
  ungraded : Bool
  offer : Option OfferNumber
  entry : Option Nat
  ack : AckState
  reoffer : Bool
  picture : List (List Pixel)
deriving DecidableEq, Repr

/-- A lane's occupancy level and pace marks (R46, R62). -/
structure Occupancy where
  level : Level
  slow : Nat
  hold : Nat
deriving DecidableEq, Repr

/-! ### Engines and tables -/

/-- ANY, YES or NO of a classifier rule (R76). -/
inductive Tri where
  | any
  | yes
  | no
deriving DecidableEq, Repr

/-- A classifier rule (R76). -/
structure ClassifierRule where
  valid : Bool
  areaMin : Nat
  areaMax : Nat
  widthMin : Nat
  widthMax : Nat
  heightMin : Nat
  heightMax : Nat
  persistence : Tri
  band : Tri
  action : Action
deriving DecidableEq, Repr

/-- The Defect Unit's engine and per-lane state beside the rule tables (R65). -/
structure DefectUnit where
  under : Option FrameRef
  lastServed : Option Lane
  waitOrder : List FrameRef
  lastDetected : PerLane (Option Nat)
deriving DecidableEq, Repr

/-- A PARTIAL frame as the first-unrepairable register holds it (R97). -/
structure Unrepairable where
  frame : Nat
  serial : Serial
deriving DecidableEq, Repr

/-- The Repair Unit's state (R82). -/
structure RepairUnit where
  under : Option FrameRef
  lastServed : Option Lane
  readyOrder : List FrameRef
  cursor : PerLane (Option Nat)
  firstUnrepairable : PerLane (Option Unrepairable)
deriving DecidableEq, Repr

/-- An entry of a curve with its written mark (R101). -/
structure CurveEntry where
  value : Sample
  written : Bool
deriving DecidableEq, Repr

/-- A grade bank: the curves of R, G and B (R101). -/
structure Bank where
  r : List CurveEntry
  g : List CurveEntry
  b : List CurveEntry
deriving DecidableEq, Repr

/-- A cue list: 64 entry positions and the entry count (R105). -/
structure CueList where
  entries : List CueEntry
  count : Nat
deriving DecidableEq, Repr

/-- A lane's cue lists and commit arm (R100). -/
structure CueState where
  active : CueList
  shadow : CueList
  armed : Bool
deriving DecidableEq, Repr

/-- An entry of the stamp list; no banks for NEUTRAL (R111). -/
structure StampEntry where
  lane : Lane
  serial : Serial
  frame : Nat
  banks : Option (Nat × Nat)
deriving DecidableEq, Repr

/-- The frame under grading with what its start resolved (R100, R115). -/
structure UnderGrading where
  ref : FrameRef
  resolved : Graded
deriving DecidableEq, Repr

/-- The Grading Unit's engine and per-lane state beside banks and cue lists (R100). -/
structure GradingUnit where
  under : Option UnderGrading
  lastServed : Option Lane
  stamps : List StampEntry
  side : PerLane Side
  lastGraded : PerLane (Option Nat)
deriving DecidableEq, Repr

/-! ### Alarms -/

/-- Alarm sources (section 7.1). -/
inductive Source where
  | damage
  | registration
  | transport
  | stall
  | baseShift
deriving DecidableEq, Repr

/-- Alarm modes (R128). -/
inductive Mode where
  | follow
  | ackThenClear
  | ackRelease
deriving DecidableEq, Repr

/-- A response set (R120, R131). -/
structure Responses where
  paceSlow : Bool
  paceHold : Bool
  gradeBypass : Bool
  shelfPause : Bool
  markReview : Bool
deriving DecidableEq, Repr

/-- An alarm record (R120). -/
structure AlarmRecord where
  mode : Mode
  pendingMode : Option Mode
  responses : Responses
  present : Bool
  raised : Bool
  inForce : Bool
  ack : Bool
  raiseCount : Nat
deriving DecidableEq, Repr

/-- The five alarm records of a lane (R120). -/
structure AlarmRecords where
  damage : AlarmRecord
  registration : AlarmRecord
  transport : AlarmRecord
  stall : AlarmRecord
  baseShift : AlarmRecord
deriving DecidableEq, Repr

/-- A lane's alarm records, filter states (R121, R123, R124) and pace level (R132). The tension run keeps whether
the last report was not NORMAL, and how many came in a row. -/
structure AlarmUnit where
  records : AlarmRecords
  overRun : Nat
  notOverRun : Nat
  tensionKind : Option Bool
  tensionCount : Nat
  tensionFault : Bool
  silence : Bool
  recentAbandon : Bool
  pace : Level
deriving DecidableEq, Repr

/-! ### Shelving -/

/-- Status of a shelf entry (R137); `opened` is OPEN. -/
inductive EntryStatus where
  | empty
  | ready
  | opened
  | full
  | failed
deriving DecidableEq, Repr

/-- A shelf entry (R137). -/
structure ShelfEntry where
  volume : Nat
  startBlock : Nat
  capacity : Nat
  notify : Bool
  eol : Bool
  status : EntryStatus
  written : Nat
  remaining : Nat
  firstFailed : Option Nat
  nextPlace : Nat
  freePlaces : List Nat
deriving DecidableEq, Repr

/-- Shelving states (R139). -/
inductive ShelvingState where
  | stopped
  | running
  | pausing
  | paused
  | stopping
deriving DecidableEq, Repr

/-- Stop reasons (R139). -/
inductive StopReason where
  | none
  | stopIndex
  | endOfList
  | entryNotReady
  | command
deriving DecidableEq, Repr

/-- An offer: number, frame, entry, place, block, and its ack timer's period in ms once outstanding (R139, R145). -/
structure Offer where
  number : OfferNumber
  frame : Nat
  entry : Nat
  place : Nat
  block : Nat
  timer : Option Nat
deriving DecidableEq, Repr

/-- The lane's item in transmission: a frame with the number of its cells already sent (R146), or a FRAME_GAP
cell handed on and not yet sent (R147). -/
inductive Item where
  | frame (o : Offer) (sentCells : Nat)
  | gap (n : Nat)
deriving DecidableEq, Repr

/-- The Shelving Controller's state for a lane (R137, R139). `waitingReported` is the result last tested of
"stopped with frames waiting" (R153). -/
structure ShelfUnit where
  entries : List ShelfEntry
  state : ShelvingState
  reason : StopReason
  current : Nat
  trigger : Bool
  pauseManual : Bool
  pauseAlarm : Bool
  pauseLink : Bool
  blocksPerFrame : Nat
  stopIndex : Option Nat
  autoRestart : Bool
  ackCode : Nat
  offerCounter : OfferNumber
  sending : Option Item
  outstanding : List Offer
  reoffer : List Nat
  gaps : List Nat
  cursor : Option Nat
  timedOut : List Nat
  stale : Nat
  waitingReported : Bool
deriving DecidableEq, Repr

/-! ### Condition records -/

/-- The condition of a record (R158): CLEARED, OPEN, FINAL. -/
inductive RecordCondition where
  | cleared
  | opened
  | finalised
deriving DecidableEq, Repr

/-- The fields of a condition record (R158). -/
structure ConditionRecord where
  serial : Serial
  reel : BitVec 32
  firstFrame : Nat
  lastNumbered : Option Nat
  numbered : Nat
  shelved : Nat
  gapped : Nat
  discarded : Nat
  extracted : Nat
  interpolated : Nat
  clamped : Nat
  incomplete : Nat
  spliced : Nat
  spurious : Nat
  synthesized : Nat
  lostEpisodes : Nat
  discontinuities : Nat
  dropout : Nat
  truncated : Nat
  ratioMin : Option Nat
  ratioMax : Option Nat
  ratioSum : Nat
  ratioMean : Option Nat
  defectRecords : Nat
  unrepairable : Nat
  overflowFrames : Nat
  cleanFrames : Nat
  repairedFrames : Nat
  partialFrames : Nat
  baseShifts : Nat
  raiseDamage : Nat
  raiseRegistration : Nat
  raiseTransport : Nat
  raiseStall : Nat
  raiseBaseShift : Nat
  shelfFailures : Nat
  staleAcks : Nat
  permille : Nat
  aborted : Bool
  noFrames : Bool
  housing : Option Nat
  months : Option Nat
deriving DecidableEq, Repr

/-- A lane's condition record with its condition (R158). -/
structure ConditionUnit where
  condition : RecordCondition
  record : ConditionRecord
deriving DecidableEq, Repr

/-- The criteria of a housing table entry (R163). -/
structure HousingEntry where
  ratioBelow : Option Nat
  permille : Option Nat
  lostEpisodes : Option Nat
  baseShifts : Option Nat
deriving DecidableEq, Repr

/-- The housing table: entries 1 to 3 and the months of entries 0 to 3 (R163). -/
structure HousingTable where
  e1 : HousingEntry
  e2 : HousingEntry
  e3 : HousingEntry
  m0 : Nat
  m1 : Nat
  m2 : Nat
  m3 : Nat
deriving DecidableEq, Repr

/-- A CONDITION cell of the condition queue (R167). -/
structure ConditionCell where
  lane : Lane
  record : ConditionRecord
  previousLost : Bool
  begun : Bool
deriving DecidableEq, Repr

/-! ### Archive port -/

/-- Refusal reasons of a REPLY (R173). -/
inductive Reason where
  | laneState
  | profileInvalid
  | badField
  | badLength
  | unknownCommand
  | bankLive
  | cuesArmed
  | cuesInvalid
  | entryOpen
  | notConfigured
deriving DecidableEq, Repr

/-- A REPLY cell of the reply queue (R171, R182): DONE where it has no reason. -/
structure Reply where
  code : Byte
  lane : Byte
  tag : Byte
  reason : Option Reason
  data : List Byte
deriving DecidableEq, Repr

/-- A notice with its payload fields (R182). -/
inductive Notice where
  | firstUnrepairable (serial : Serial) (frame : Nat)
  | cuesSwapped (count : Nat) (frame : Option Nat)
  | alarmRaised (source : Source) (count : Nat) (frame : Option Nat)
  | alarmReleased (source : Source) (mode : Mode) (present : Bool)
  | entryClosed (index : Nat) (status : EntryStatus) (written remaining : Nat) (firstFailed : Option Nat)
deriving DecidableEq, Repr

/-- A NOTICE cell of the notice queue (R176). -/
structure NoticeCell where
  lane : Lane
  notice : Notice
deriving DecidableEq, Repr

/-- Where the cell on the archive link came from (R154). A `withdrawn` frame cell's item was withdrawn while the cell
was being sent. -/
inductive CellSource where
  | reply
  | notice
  | condition
  | frame (l : Lane)
  | withdrawn (l : Lane)
deriving DecidableEq, Repr

/-- The cell being sent on the archive link (R154, R167). -/
structure Sending where
  source : CellSource
  cell : Cell
deriving DecidableEq, Repr

/-- The Archive Port (R154, R169, R170, R172, R176). -/
structure ArchivePort where
  up : Bool
  checkErrors : Nat
  malformed : Nat
  overruns : Nat
  replies : List Reply
  notices : List NoticeCell
  lastFrameLane : Option Lane
  sending : Option Sending
  lastCell : Option (List Byte)
deriving DecidableEq, Repr

/-- The notice mask of a lane (R175). -/
structure NoticeMask where
  firstUnrepairable : Bool
  cuesSwapped : Bool
  alarmRaised : Bool
  alarmReleased : Bool
deriving DecidableEq, Repr

/-- The reset input and what its release leaves (R185). -/
structure PartState where
  resetLow : Bool
  linksBarred : Bool
  timebase : Bool
deriving DecidableEq, Repr

end Sys2Proof.Machine
end

