-- ==== Sys2Proof/Machine/PowerOn.lean ====
section
/-! DEFINITION. The value of every block's state after power-on, as each chapter gives it where the state is
specified (section 4.7, R185), and the CLEARED values that later resets use again. -/

namespace Sys2Proof.Machine

/-- The same value for both lanes. -/
def both {α : Type} (x : α) : PerLane α := { a := x, b := x }

/-- Lane record after power-on (R1). -/
def laneRecordOn : LaneRecord :=
  { state := .idle, serial := 0, reel := 0, firstFrame := 0, phase := 0, nextFrame := some 0, lastNumbered := none
    profileValid := false, noticeOverflow := false }

/-- Gauge profile after power-on: every field zero (R3). -/
def profileOn : Profile :=
  { k := 0, pitch := 0, frameOffset := 0, width := 0, height := 0, smoothing := 0, irThreshold := 0
    damageThreshold := 0, spatialMax := 0, bands := [none, none, none, none], defaultAction := .temporal
    baseOffset := 0, baseLines := 0, baseColumns := { x0 := 0, x1 := 0 }, silenceCode := 0 }

/-- Intake Port after power-on (R22, R133, R169, R170). -/
def intakeOn : IntakePort :=
  { up := false, checkErrors := 0, malformed := 0, assembly := none, lastLine := none, silence := .stopped
    resumeOwed := false, outOfOrder := 0, pacePlace := none, lastPace := none }

/-- Registration state after power-on, BEGIN_REEL and RESET_LANE (R26, R29). -/
def regOn : RegUnit :=
  { strip := [], lastEdge := none, seekRun := [], lockEdges := none, openFrame := none, lastClosing := none
    prevRatio := none, unsmoothedNext := true, splices := [], pendingFrame := none }

/-- Occupancy level and marks after power-on (R46). -/
def occupancyOn : Occupancy := { level := .normal, slow := 10, hold := 14 }

/-- A classifier rule after power-on: invalid, every field zero (R76). -/
def ruleOn : ClassifierRule :=
  { valid := false, areaMin := 0, areaMax := 0, widthMin := 0, widthMax := 0, heightMin := 0, heightMax := 0
    persistence := .any, band := .any, action := .temporal }

/-- Defect Unit after power-on (R65). -/
def defectOn : DefectUnit := { under := none, lastServed := none, waitOrder := [], lastDetected := both none }

/-- Repair Unit after power-on (R82). -/
def repairOn : RepairUnit :=
  { under := none, lastServed := none, readyOrder := [], cursor := both none, firstUnrepairable := both none }

/-- A curve after power-on: entries 0, marks clear (R101). -/
def curveOn : List CurveEntry := List.replicate Config.curveEntries { value := 0, written := false }

/-- A grade bank after power-on (R101). -/
def bankOn : Bank := { r := curveOn, g := curveOn, b := curveOn }

/-- A cue entry after power-on (R105). -/
def cueEntryOn : CueEntry :=
  { start := 0, even := 0, odd := 0, mode := .evenOnly, threshold := 0, hysteresis := 0, interval := 1 }

/-- A cue list after power-on (R105). -/
def cueListOn : CueList := { entries := List.replicate Config.cuePositions cueEntryOn, count := 0 }

/-- Cue lists and arm after power-on (R100). -/
def cuesOn : CueState := { active := cueListOn, shadow := cueListOn, armed := false }

/-- Grading Unit after power-on (R100). -/
def gradingOn : GradingUnit :=
  { under := none, lastServed := none, stamps := [], side := both .even, lastGraded := both none }

/-- No response (R120). -/
def noResponses : Responses :=
  { paceSlow := false, paceHold := false, gradeBypass := false, shelfPause := false, markReview := false }

/-- An alarm record after power-on (R120). -/
def alarmRecordOn : AlarmRecord :=
  { mode := .follow, pendingMode := none, responses := noResponses, present := false, raised := false
    inForce := false, ack := false, raiseCount := 0 }

/-- Alarm state after power-on: filters empty (R121 to R124), pace HOLD (R132). -/
def alarmsOn : AlarmUnit :=
  { records := { damage := alarmRecordOn, registration := alarmRecordOn, transport := alarmRecordOn
                 stall := alarmRecordOn, baseShift := alarmRecordOn }
    overRun := 0, notOverRun := 0, tensionKind := none, tensionCount := 0, tensionFault := false
    silence := false, recentAbandon := false, pace := .hold }

/-- A shelf entry after power-on: EMPTY, fields 0 (R137). -/
def shelfEntryOn : ShelfEntry :=
  { volume := 0, startBlock := 0, capacity := 0, notify := false, eol := false, status := .empty, written := 0
    remaining := 0, firstFailed := none, nextPlace := 0, freePlaces := [] }

/-- Shelving state after power-on: STOPPED, LINK set (R139). -/
def shelfOn : ShelfUnit :=
  { entries := List.replicate Config.shelfCount shelfEntryOn, state := .stopped, reason := .none, current := 0
    trigger := false, pauseManual := false, pauseAlarm := false, pauseLink := true, blocksPerFrame := 0
    stopIndex := none, autoRestart := false, ackCode := 0, offerCounter := 0, sending := none, outstanding := []
    reoffer := [], gaps := [], cursor := none, timedOut := [], stale := 0, waitingReported := false }

/-- A condition record's CLEARED values (R158). -/
def recordCleared : ConditionRecord :=
  { serial := 0, reel := 0, firstFrame := 0, lastNumbered := none, numbered := 0, shelved := 0, gapped := 0
    discarded := 0, extracted := 0, interpolated := 0, clamped := 0, incomplete := 0, spliced := 0, spurious := 0
    synthesized := 0, lostEpisodes := 0, discontinuities := 0, dropout := 0, truncated := 0, ratioMin := none
    ratioMax := none, ratioSum := 0, ratioMean := none, defectRecords := 0, unrepairable := 0, overflowFrames := 0
    cleanFrames := 0, repairedFrames := 0, partialFrames := 0, baseShifts := 0, raiseDamage := 0
    raiseRegistration := 0, raiseTransport := 0, raiseStall := 0, raiseBaseShift := 0, shelfFailures := 0
    staleAcks := 0, permille := 0, aborted := false, noFrames := false, housing := none, months := none }

/-- A condition record after power-on and RESET_LANE: CLEARED (R159). -/
def conditionOn : ConditionUnit := { condition := .cleared, record := recordCleared }

/-- A housing entry after power-on: every criterion NONE (R163). -/
def housingEntryOn : HousingEntry := { ratioBelow := none, permille := none, lostEpisodes := none, baseShifts := none }

/-- The housing table after power-on (R163). -/
def housingOn : HousingTable :=
  { e1 := housingEntryOn, e2 := housingEntryOn, e3 := housingEntryOn, m0 := 0, m1 := 0, m2 := 0, m3 := 0 }

/-- The Archive Port after power-on (R154, R169, R170, R172, R176). -/
def archiveOn : ArchivePort :=
  { up := false, checkErrors := 0, malformed := 0, overruns := 0, replies := [], notices := []
    lastFrameLane := none, sending := none, lastCell := none }

/-- The notice mask after power-on: all clear (R175). -/
def maskOn : NoticeMask :=
  { firstUnrepairable := false, cuesSwapped := false, alarmRaised := false, alarmReleased := false }

/-- The reset input released, links free to train, timebase counting (R185). -/
def partOn : PartState := { resetLow := false, linksBarred := false, timebase := true }

end Sys2Proof.Machine
end

