-- ==== Sys2Proof/Machine/State.lean ====
section
/-! DEFINITION. The state of the 612: every register, buffer, table, counter and flag of the spec, block by block, and
the queue of commands that wait; its value after power-on; the reasons a step can stop (there are no faults). -/

namespace Sys2Proof.Machine

/-- The state of the part. One field for each block's state, each a plain record. -/
structure State where
  /-- Reset input and timebase (R185). -/
  part : PartState
  /-- Archive Port (R154, R169 to R176). -/
  archive : ArchivePort
  /-- Intake Ports (R22, R133, R169). -/
  intake : PerLane IntakePort
  /-- Lane records (R1). -/
  lane : PerLane LaneRecord
  /-- Gauge profiles (R3). -/
  profile : PerLane Profile
  /-- Registration Units (R26, R29). -/
  reg : PerLane RegUnit
  /-- Slot Table: 24 places, none is FREE (R46, R47). -/
  slots : List (Option Slot)
  /-- Request order of the Frame Store (R46, R52). -/
  requests : List Lane
  /-- Occupancy levels and pace marks (R46, R62). -/
  occupancy : PerLane Occupancy
  /-- Classifier rule tables (R76). -/
  rules : PerLane (List ClassifierRule)
  /-- Defect Unit (R65). -/
  defect : DefectUnit
  /-- Repair Unit (R82). -/
  repair : RepairUnit
  /-- Grade banks 0 to 7 (R101). -/
  banks : List Bank
  /-- Cue lists and commit arms (R100, R105). -/
  cues : PerLane CueState
  /-- Grading Unit (R100). -/
  grading : GradingUnit
  /-- Alarm Controller (R120 to R125, R132). -/
  alarms : PerLane AlarmUnit
  /-- Shelving Controller (R137, R139). -/
  shelf : PerLane ShelfUnit
  /-- Condition records (R158). -/
  cond : PerLane ConditionUnit
  /-- Condition queue (R167). -/
  condQueue : List ConditionCell
  /-- Housing table (R163). -/
  housing : HousingTable
  /-- Notice masks (R175). -/
  mask : PerLane NoticeMask
  /-- The model's counter of free values (log entry 4). -/
  freeIndex : Nat
  /-- Commands that wait, first in first out (log entry 1). -/
  pending : List Instr
deriving DecidableEq, Repr

/-- Reasons a step stops with a fault. None: the spec gives the part no fault; every command of the table has an
effect in every state (safe: nothing is cut off). -/
inductive Fault
deriving DecidableEq, Repr

/-- Reasons a step is refused. -/
inductive Refusal where
  /-- Raised by an arm of `exec` whose command has no meaning yet (safe). No arm raises it. -/
  | notModelled (mnemonic : String)
deriving DecidableEq, Repr

/-- The part right after power-on (R185): every piece of state at its power-on value, both links of the transports
and the archive link DOWN, no command waiting. -/
def State.reset : State :=
  { part := partOn
    archive := archiveOn
    intake := both intakeOn
    lane := both laneRecordOn
    profile := both profileOn
    reg := both regOn
    slots := List.replicate Config.slotCount none
    requests := []
    occupancy := both occupancyOn
    rules := both (List.replicate Config.ruleCount ruleOn)
    defect := defectOn
    repair := repairOn
    banks := List.replicate Config.bankCount bankOn
    cues := both cuesOn
    grading := gradingOn
    alarms := both alarmsOn
    shelf := both shelfOn
    cond := both conditionOn
    condQueue := []
    housing := housingOn
    mask := both maskOn
    freeIndex := 0
    pending := [] }

end Sys2Proof.Machine
end

