-- ==== Sys2Proof/Machine/Ops.lean ====
section
/-! DEFINITION. The named operations every block uses: arithmetic of section 4.3, one update for each field of State,
tallies of the condition record (R158 to R161), notices (R176), the slot table (R46, R47), and what is known of a
frame's successor (R59). -/

namespace Sys2Proof.Machine

/-! ### Arithmetic -/

/-- round_half_up(a / b) for non-negative a and positive b (section 4.3). -/
def roundHalfUp (a b : Nat) : Nat := (2 * a + b) / (2 * b)

/-- A count raised by `k` and held at `top` (R22, R158). -/
def heldAdd (top n k : Nat) : Nat := min top (n + k)

/-- Line number `m` is ahead of `x`, read modulo 2^32 (R23). -/
def ahead (m x : LineNumber) : Bool := 1 ≤ (m - x).toNat && (m - x).toNat ≤ 2147483647

/-- The next frame number after `n`, NONE after 16,777,215 (R11, R144). -/
def nextNumber (n : Nat) : Option Nat := if n = Config.lastFrame then none else some (n + 1)

/-- A number inserted in an ascending list. -/
def insertAscending (n : Nat) : List Nat → List Nat
  | [] => [n]
  | m :: rest => if n ≤ m then n :: m :: rest else m :: insertAscending n rest

/-- The code of a level, which is also its order (R132, R174). -/
def levelCode : Level → Nat
  | .normal => 0
  | .slow => 1
  | .hold => 2

/-- The higher of two levels, NORMAL below SLOW below HOLD (R132). -/
def maxLevel (x y : Level) : Level := if levelCode x ≤ levelCode y then y else x

/-- The timeout in ms of a code, none for code 0 (section 4.5). -/
def timeoutMs (code : Nat) : Option Nat := if code = 0 then none else some (4 ^ (code - 1))

/-! ### Updates, one for each field of State -/

/-- Archive Port changed. -/
def updArchive (f : ArchivePort → ArchivePort) (s : State) : State := { s with archive := f s.archive }

/-- One Intake Port changed. -/
def updIntake (l : Lane) (f : IntakePort → IntakePort) (s : State) : State := { s with intake := s.intake.mod l f }

/-- One lane record changed. -/
def updLane (l : Lane) (f : LaneRecord → LaneRecord) (s : State) : State := { s with lane := s.lane.mod l f }

/-- One gauge profile replaced. -/
def setProfile (l : Lane) (p : Profile) (s : State) : State := { s with profile := s.profile.set l p }

/-- One Registration Unit changed. -/
def updReg (l : Lane) (f : RegUnit → RegUnit) (s : State) : State := { s with reg := s.reg.mod l f }

/-- The Slot Table changed. -/
def updSlots (f : List (Option Slot) → List (Option Slot)) (s : State) : State := { s with slots := f s.slots }

/-- The request order changed. -/
def updRequests (f : List Lane → List Lane) (s : State) : State := { s with requests := f s.requests }

/-- One lane's occupancy record changed. -/
def updOccupancy (l : Lane) (f : Occupancy → Occupancy) (s : State) : State :=
  { s with occupancy := s.occupancy.mod l f }

/-- One classifier rule table changed. -/
def updRules (l : Lane) (f : List ClassifierRule → List ClassifierRule) (s : State) : State :=
  { s with rules := s.rules.mod l f }

/-- The Defect Unit changed. -/
def updDefect (f : DefectUnit → DefectUnit) (s : State) : State := { s with defect := f s.defect }

/-- The Repair Unit changed. -/
def updRepair (f : RepairUnit → RepairUnit) (s : State) : State := { s with repair := f s.repair }

/-- The grade banks changed. -/
def updBanks (f : List Bank → List Bank) (s : State) : State := { s with banks := f s.banks }

/-- One lane's cue lists and arm changed. -/
def updCues (l : Lane) (f : CueState → CueState) (s : State) : State := { s with cues := s.cues.mod l f }

/-- The Grading Unit changed. -/
def updGrading (f : GradingUnit → GradingUnit) (s : State) : State := { s with grading := f s.grading }

/-- One lane's alarm state changed. -/
def updAlarms (l : Lane) (f : AlarmUnit → AlarmUnit) (s : State) : State := { s with alarms := s.alarms.mod l f }

/-- One lane's shelving state changed. -/
def updShelf (l : Lane) (f : ShelfUnit → ShelfUnit) (s : State) : State := { s with shelf := s.shelf.mod l f }

/-- One condition record changed. -/
def updCond (l : Lane) (f : ConditionUnit → ConditionUnit) (s : State) : State := { s with cond := s.cond.mod l f }

/-- The condition queue changed. -/
def updCondQueue (f : List ConditionCell → List ConditionCell) (s : State) : State :=
  { s with condQueue := f s.condQueue }

/-- The housing table replaced. -/
def setHousing (t : HousingTable) (s : State) : State := { s with housing := t }

/-- One notice mask replaced. -/
def setMask (l : Lane) (m : NoticeMask) (s : State) : State := { s with mask := s.mask.set l m }

/-- The reset input and timebase replaced. -/
def setPart (p : PartState) (s : State) : State := { s with part := p }

/-- The counter of free values advanced by one (log entry 4). -/
def advanceFree (s : State) : State := { s with freeIndex := s.freeIndex + 1 }

/-! ### Tallies -/

/-- A tally: the record is changed only while it is OPEN (R159). -/
def tally (l : Lane) (f : ConditionRecord → ConditionRecord) (s : State) : State :=
  updCond l (fun c => if c.condition = .opened then { c with record := f c.record } else c) s

/-- Top of the frame counts of R158. -/
def frameTop : Nat := 16777216

/-- Top of the 32-bit counts of R158. -/
def countTop : Nat := 4294967295

/-- Top of the 16-bit counts (R22, R120, R139, R158, R170). -/
def shortTop : Nat := 65535

/-- The greater of a frame number and a last frame numbered that may be NONE (R9). -/
def raiseLast (n : Nat) : Option Nat → Option Nat
  | none => some n
  | some m => some (max m n)

/-- A frame number is placed: frames numbered +1, last frame numbered raised, in the condition record and the lane
record (R9, R160). The condition record's is raised only by a greater number, as R160 has it: the model's reading (log entry 27). -/
def placeNumber (l : Lane) (n : Nat) (s : State) : State :=
  updLane l (fun r => { r with lastNumbered := raiseLast n r.lastNumbered })
    (tally l (fun c => { c with numbered := heldAdd frameTop c.numbered 1, lastNumbered := raiseLast n c.lastNumbered }) s)

/-! ### Notices -/

/-- A notice is handed to the Archive Port: queued, or its lane's notice overflow set when 16 wait (R176). -/
def notify (l : Lane) (n : Notice) (s : State) : State :=
  if s.archive.notices.length < Config.noticeQueueSize then
    updArchive (fun p => { p with notices := p.notices ++ [{ lane := l, notice := n }] }) s
  else
    updLane l (fun r => { r with noticeOverflow := true }) s

/-! ### The Slot Table -/

/-- The slot is the lane's, of its current pass, and holds frame `n` (R2, R47). -/
def holdsFrame (l : Lane) (serial : Serial) (n : Nat) (x : Slot) : Bool :=
  x.lane = l && x.serial = serial && x.frame = n

/-- The held slots of a lane, in slot order. -/
def laneSlots (l : Lane) (s : State) : List Slot :=
  (s.slots.filterMap id).filter fun x => x.lane = l

/-- The slot that holds frame `n` of the lane's current pass, if one does. -/
def frameSlot (l : Lane) (n : Nat) (s : State) : Option Slot :=
  (s.slots.filterMap id).find? (holdsFrame l (s.lane.get l).serial n)

/-- The slot of frame `n` of the lane's current pass changed. -/
def updFrame (l : Lane) (n : Nat) (f : Slot → Slot) (s : State) : State :=
  updSlots (fun t => t.map (Option.map fun x => if holdsFrame l (s.lane.get l).serial n x then f x else x)) s

/-- Held count of a lane (R46). -/
def heldCount (l : Lane) (s : State) : Nat := s.slots.countP fun o => o.any fun x => x.lane = l

/-- Free count (R46). -/
def freeCount (s : State) : Nat := s.slots.countP Option.isNone

/-- A slot is at one of the stages named. -/
def Slot.at (x : Slot) (stages : List Stage) : Bool := stages.contains x.stage

/-- Frame `n` of the lane is held at one of the stages named. -/
def frameAt (l : Lane) (n : Nat) (stages : List Stage) (s : State) : Bool :=
  (frameSlot l n s).any fun x => x.at stages

/-- The lowest frame number among slots, or none. -/
def lowestFrame (xs : List Slot) : Option Nat :=
  xs.foldl (fun m x => match m with | none => some x.frame | some n => some (min n x.frame)) none

/-- The lane's lowest-numbered frame at a stage, or none. -/
def lowestAt (l : Lane) (stage : Stage) (s : State) : Option Nat :=
  lowestFrame ((laneSlots l s).filter fun x => x.stage = stage)

/-! ### What is known of a frame number -/

/-- The number has been given out in the lane's pass (R9, R10, R11). -/
def numberGiven (l : Lane) (n : Nat) (s : State) : Bool :=
  match (s.lane.get l).nextFrame with
  | none => true
  | some m => n < m

/-- The number is that of the lane's pending extraction. -/
def isPending (l : Lane) (n : Nat) (s : State) : Bool :=
  (s.reg.get l).pendingFrame.any fun p => p.frame = n

/-- Frame `n` of the pass has been repaired: the lane's repair cursor is `n` or later (R58). -/
def isRepaired (l : Lane) (n : Nat) (s : State) : Bool :=
  (s.repair.cursor.get l).any fun c => n ≤ c

/-- The number is a gap of the pass: given out, and neither pending nor held nor repaired (R10, R56, log entry 10). -/
def isGap (l : Lane) (n : Nat) (s : State) : Bool :=
  numberGiven l n s && !isPending l n s && (frameSlot l n s).isNone && !isRepaired l n s

/-- Frame n + 1 is known never to come (R59): it is a gap, n is the last frame number, or the lane is DRAINING and
n + 1 has received no number. -/
def successorNeverComes (l : Lane) (n : Nat) (s : State) : Bool :=
  n = Config.lastFrame || isGap l (n + 1) s || ((s.lane.get l).state = .draining && !numberGiven l (n + 1) s)

/-- Frame n + 1 has been repaired or is known never to come (R58, R96). -/
def successorSettled (l : Lane) (n : Nat) (s : State) : Bool :=
  isRepaired l (n + 1) s || successorNeverComes l n s

/-- The lane's arbiter choice between at most one candidate of each lane (R67, R85, R113): the other lane of the one last
served; with none served yet, the lane `first` prefers. -/
def arbitrate (lastServed : Option Lane) (first : Lane) (candA candB : Option Nat) : Option FrameRef :=
  match candA, candB with
  | none, none => none
  | some n, none => some { lane := .a, frame := n }
  | none, some m => some { lane := .b, frame := m }
  | some n, some m =>
    match lastServed with
    | some .a => some { lane := .b, frame := m }
    | some .b => some { lane := .a, frame := n }
    | none => if first = .a then some { lane := .a, frame := n } else some { lane := .b, frame := m }

end Sys2Proof.Machine
end

