-- ==== Sys2Proof/Machine/ShelfOps.lean ====
section
/-! DEFINITION. The parts of the Shelving Controller that other blocks reach: the shelving order and offers (R144, R145,
R147), pause sources (R141), and the condition "stopped with frames waiting" (R153). -/

namespace Sys2Proof.Machine

/-- The entry at an index of the shelf list. -/
def entryAt (u : ShelfUnit) (i : Nat) : ShelfEntry := u.entries.getD i shelfEntryOn

/-- One entry of the shelf list changed. -/
def updEntry (i : Nat) (f : ShelfEntry → ShelfEntry) (u : ShelfUnit) : ShelfUnit :=
  { u with entries := u.entries.modify i f }

/-- The offer of the frame in transmission, if one is. -/
def transmitting (u : ShelfUnit) : Option Offer :=
  match u.sending with
  | some (.frame o _) => some o
  | _ => none

/-- The gap of a FRAME_GAP cell handed on and not yet sent, if there is one (R147). -/
def gapHandedOn (u : ShelfUnit) : Option Nat :=
  match u.sending with
  | some (.gap n) => some n
  | _ => none

/-- The offers of the lane: outstanding, then in transmission (R139). -/
def laneOffers (u : ShelfUnit) : List Offer := u.outstanding ++ (transmitting u).toList

/-- The place an offer takes (R145): the lowest free place, else the next place. -/
def offerPlace (e : ShelfEntry) : Nat := e.freePlaces.headD e.nextPlace

/-- The entry after an offer has taken its place (R145). -/
def takePlace (e : ShelfEntry) : ShelfEntry :=
  match e.freePlaces with
  | [] => { e with nextPlace := e.nextPlace + 1 }
  | _ :: rest => { e with freePlaces := rest }

/-- The block of a place: (start block + place * blocks per frame) mod 2^48 (R137). -/
def placeBlock (e : ShelfEntry) (place blocksPerFrame : Nat) : Nat :=
  (e.startBlock + place * blocksPerFrame) % 2 ^ 48

/-- A frame's offer can begin, the frame being the lane's next item (R145). -/
def offerReady (l : Lane) (n : Nat) (s : State) : Bool :=
  let u := s.shelf.get l
  let e := entryAt u u.current
  frameAt l n [.shelfWait] s && u.state = .running && e.status = .opened
    && e.written + (laneOffers u).length < e.capacity && (laneOffers u).length < Config.offerLimit
    && u.sending.isNone

/-- The offer that begins for a frame (R145). -/
def newOffer (u : ShelfUnit) (n : Nat) : Offer :=
  let e := entryAt u u.current
  { number := u.offerCounter, frame := n, entry := u.current, place := offerPlace e
    block := placeBlock e (offerPlace e) u.blocksPerFrame, timer := none }

/-- A frame's offer begins (R145). -/
def beginOffer (l : Lane) (n : Nat) (s : State) : State :=
  let o := newOffer (s.shelf.get l) n
  updFrame l n (fun x => { x with stage := .offered, offer := some o.number, entry := some o.entry, ack := .outstanding })
    (updShelf l (fun u => updEntry u.current takePlace
      { u with offerCounter := u.offerCounter + 1, sending := some (.frame o 0) }) s)

/-- The lane hands on its next item if it can (R144, R147). -/
def handOn (l : Lane) (s : State) : State :=
  let u := s.shelf.get l
  if u.state = .running && u.sending.isNone then
    match u.reoffer with
    | n :: rest =>
      if offerReady l n s then beginOffer l n (updShelf l (fun v => { v with reoffer := rest }) s) else s
    | [] =>
      match u.cursor with
      | none => s
      | some n =>
        if u.gaps.contains n then
          updShelf l (fun v => { v with gaps := v.gaps.erase n, cursor := nextNumber n, sending := some (.gap n) }) s
        else if offerReady l n s then
          beginOffer l n (updShelf l (fun v => { v with cursor := nextNumber n }) s)
        else s
  else s

/-- Some pause source of the lane is set (R141). -/
def isPaused (u : ShelfUnit) : Bool := u.pauseManual || u.pauseAlarm || u.pauseLink

/-- The shelving state after a pause source has changed (R141). -/
def pausedState (u : ShelfUnit) : ShelvingState :=
  match u.state with
  | .running => if isPaused u then (if (transmitting u).isSome then .pausing else .paused) else .running
  | .pausing => if isPaused u then .pausing else .running
  | .paused => if isPaused u then .paused else .running
  | .stopped => .stopped
  | .stopping => .stopping

/-- A pause source has been given a value: the shelving state follows, and a lane that becomes RUNNING hands on its
next item (R141, R144). -/
def changePause (l : Lane) (f : ShelfUnit → ShelfUnit) (s : State) : State :=
  handOn l (updShelf l (fun u => let v := f u; { v with state := pausedState v }) s)

/-- A gap of the lane is unsent, or its FRAME_GAP cell waits to be sent (R147, R153; log entry 12). -/
def gapWaits (u : ShelfUnit) : Bool := !u.gaps.isEmpty || (gapHandedOn u).isSome

/-- "Stopped with frames waiting" (R124, R153). -/
def stoppedWaiting (l : Lane) (s : State) : Bool :=
  let u := s.shelf.get l
  u.state = .stopped && (u.reason = .endOfList || u.reason = .entryNotReady)
    && ((laneSlots l s).any (fun x => x.stage = .shelfWait) || gapWaits u)

end Sys2Proof.Machine
end

