-- ==== Sys2Proof/Machine/Flags.lean ====
section
/-! DEFINITION. The Alarm Controller (chapter 7): present flags and their filters (R121 to R125), raise, evaluation and
release (R126 to R128), responses (R131), pace level and PACE cells (R132, R133). -/

namespace Sys2Proof.Machine

/-- The five sources in code order (R174). -/
def allSources : List Source := [.damage, .registration, .transport, .stall, .baseShift]

/-- The code of a source (R174). -/
def sourceCode : Source → Nat
  | .damage => 0
  | .registration => 1
  | .transport => 2
  | .stall => 3
  | .baseShift => 4

/-- The record of a source. -/
def recordOf (r : AlarmRecords) : Source → AlarmRecord
  | .damage => r.damage
  | .registration => r.registration
  | .transport => r.transport
  | .stall => r.stall
  | .baseShift => r.baseShift

/-- The record of a source replaced. -/
def setRecord (r : AlarmRecords) (src : Source) (x : AlarmRecord) : AlarmRecords :=
  match src with
  | .damage => { r with damage := x }
  | .registration => { r with registration := x }
  | .transport => { r with transport := x }
  | .stall => { r with stall := x }
  | .baseShift => { r with baseShift := x }

/-- The alarm record of a lane's source. -/
def alarmRecord (l : Lane) (src : Source) (s : State) : AlarmRecord := recordOf (s.alarms.get l).records src

/-- The alarm record of a lane's source changed. -/
def updRecord (l : Lane) (src : Source) (f : AlarmRecord → AlarmRecord) (s : State) : State :=
  updAlarms l (fun u => { u with records := setRecord u.records src (f (recordOf u.records src)) }) s

/-- Union of two response sets (R131). -/
def unionResponses (x y : Responses) : Responses :=
  { paceSlow := x.paceSlow || y.paceSlow, paceHold := x.paceHold || y.paceHold
    gradeBypass := x.gradeBypass || y.gradeBypass, shelfPause := x.shelfPause || y.shelfPause
    markReview := x.markReview || y.markReview }

/-- The response set of a record while it is in force, else none (R131). -/
def forceOf (r : AlarmRecord) : Responses := if r.inForce then r.responses else noResponses

/-- Responses in force of alarm records (R131). -/
def responsesOf (r : AlarmRecords) : Responses :=
  unionResponses (forceOf r.damage) (unionResponses (forceOf r.registration)
    (unionResponses (forceOf r.transport) (unionResponses (forceOf r.stall) (forceOf r.baseShift))))

/-- The lane's responses in force (R131). -/
def responsesInForce (l : Lane) (s : State) : Responses := responsesOf (s.alarms.get l).records

/-! ### Pace -/

/-- The lane's pace level as R132 combines it. -/
def paceLevelOf (l : Lane) (s : State) : Level :=
  let r := responsesInForce l s
  maxLevel (s.occupancy.get l).level
    (maxLevel (if r.paceSlow then .slow else .normal)
      (maxLevel (if r.paceHold then .hold else .normal)
        (if (s.lane.get l).state = .idle then .hold else .normal)))

/-- The sources whose in-force records give PACE_SLOW or PACE_HOLD, one bit per source code (R133, R180). -/
def paceSources (r : AlarmRecords) : Nat :=
  allSources.foldl (fun n src =>
    if (forceOf (recordOf r src)).paceSlow || (forceOf (recordOf r src)).paceHold then n + 2 ^ sourceCode src else n) 0

/-- The PACE cell of the lane's level and causes (R133). -/
def paceCellOf (l : Lane) (s : State) : PaceCell :=
  { level := (s.alarms.get l).pace, occupancy := (s.occupancy.get l).level
    sources := paceSources (s.alarms.get l).records, idle := (s.lane.get l).state = .idle }

/-- A PACE cell with the lane's level and causes is put in the port's place, which is kept empty while the link is
DOWN (R133). -/
def placePace (l : Lane) (s : State) : State :=
  updIntake l (fun p => if p.up then { p with pacePlace := some (paceCellOf l s) } else p) s

/-- The pace level is recomputed; a change is handed to the Intake Port (R132, R133). -/
def recomputePace (l : Lane) (s : State) : State :=
  let v := paceLevelOf l s
  if v = (s.alarms.get l).pace then s
  else placePace l (updAlarms l (fun u => { u with pace := v }) s)

/-- The responses in force are recomputed and handed on: pace level, then ALARM pause source (R131). -/
def recomputeResponses (l : Lane) (s : State) : State :=
  let t := recomputePace l s
  let b := (responsesInForce l t).shelfPause
  if (t.shelf.get l).pauseAlarm = b then t else changePause l (fun u => { u with pauseAlarm := b }) t

/-! ### Raise, evaluation, release -/

/-- The condition record's raise count of a source, one higher (R126, R161). -/
def countRaise (src : Source) (c : ConditionRecord) : ConditionRecord :=
  match src with
  | .damage => { c with raiseDamage := heldAdd shortTop c.raiseDamage 1 }
  | .registration => { c with raiseRegistration := heldAdd shortTop c.raiseRegistration 1 }
  | .transport => { c with raiseTransport := heldAdd shortTop c.raiseTransport 1 }
  | .stall => { c with raiseStall := heldAdd shortTop c.raiseStall 1 }
  | .baseShift => { c with raiseBaseShift := heldAdd shortTop c.raiseBaseShift 1 }

/-- A record at its raise (R126). -/
def raisedRecord (r : AlarmRecord) : AlarmRecord :=
  { r with raised := true, inForce := true, ack := false, raiseCount := heldAdd shortTop r.raiseCount 1 }

/-- A raise (R126, R134). -/
def raiseAlarm (l : Lane) (src : Source) (frame : Option Nat) (s : State) : State :=
  let t := recomputeResponses l (tally l (countRaise src) (updRecord l src raisedRecord s))
  if (s.mask.get l).alarmRaised then
    notify l (.alarmRaised src (alarmRecord l src t).raiseCount frame) t
  else t

/-- The pending mode is taken up (R128 step 1). -/
def takeMode (r : AlarmRecord) : AlarmRecord :=
  match r.pendingMode with
  | none => r
  | some m => { r with mode := m, pendingMode := none }

/-- A raised record meets its mode's release condition (R128 step 2). -/
def releases (r : AlarmRecord) : Bool :=
  r.raised && match r.mode with
    | .follow => !r.present
    | .ackThenClear => r.ack && !r.present
    | .ackRelease => r.ack

/-- A record at its release (R128). -/
def releasedRecord (r : AlarmRecord) : AlarmRecord := { r with raised := false, inForce := false, ack := false }

/-- One record at an evaluation point, the responses in force still to be recomputed (R128, R134). -/
def evaluateRecord (l : Lane) (s : State) (src : Source) : State :=
  let t := updRecord l src takeMode s
  let r := alarmRecord l src t
  if releases r then
    let u := updRecord l src releasedRecord t
    if (s.mask.get l).alarmReleased then notify l (.alarmReleased src r.mode r.present) u else u
  else t

/-- An evaluation point releases one of the lane's records (R128). -/
def someRelease (l : Lane) (s : State) : Bool := allSources.any fun src => releases (takeMode (alarmRecord l src s))

/-- An evaluation point of the lane: all five records (R127), then, where one was released, the responses in force (R131).
Releases of one point are one change of level: the boundary of section 7.7 that releases two alarms gives one PACE cell, which
names neither. -/
def evaluate (l : Lane) (s : State) : State :=
  let t := allSources.foldl (evaluateRecord l) s
  if someRelease l s then recomputeResponses l t else t

/-- An evaluation point where the lane is outside RUNNING (R127). -/
def evaluateOutside (l : Lane) (s : State) : State :=
  if (s.lane.get l).state = .running then s else evaluate l s

/-- A source's present flag is given a value. A change from false to true on an unraised record is a raise; outside
RUNNING each change is then an evaluation point (R126, R127). -/
def changePresent (l : Lane) (src : Source) (value : Bool) (frame : Option Nat) (s : State) : State :=
  let r := alarmRecord l src s
  if r.present = value then s
  else
    let t := updRecord l src (fun x => { x with present := value }) s
    evaluateOutside l (if value && !r.raised then raiseAlarm l src frame t else t)

/-! ### The sources -/

/-- A DAMAGE sample (R121). -/
def damageSample (l : Lane) (frame : Nat) (isOver : Bool) (s : State) : State :=
  let u := s.alarms.get l
  if isOver then
    let run := heldAdd 2 u.overRun 1
    let t := updAlarms l (fun v => { v with overRun := run, notOverRun := 0 }) s
    if run = 2 then changePresent l .damage true (some frame) t else t
  else
    let run := heldAdd 2 u.notOverRun 1
    let t := updAlarms l (fun v => { v with overRun := 0, notOverRun := run }) s
    if run = 2 then changePresent l .damage false (some frame) t else t

/-- A REGISTRATION sample (R122). -/
def registrationSample (l : Lane) (frame : Nat) (interpolated : Bool) (s : State) : State :=
  changePresent l .registration interpolated (some frame) s

/-- An entry to LOST reported to the REGISTRATION source (R122). -/
def registrationLost (l : Lane) (s : State) : State := changePresent l .registration true none s

/-- TRANSPORT's present follows its tension fault and silence flags (R123). -/
def transportPresent (l : Lane) (s : State) : State :=
  changePresent l .transport ((s.alarms.get l).tensionFault || (s.alarms.get l).silence) none s

/-- The tension run and fault flag after a report (R123). -/
def tensionRun (notNormal : Bool) (u : AlarmUnit) : AlarmUnit :=
  let count := if u.tensionKind = some notNormal then heldAdd 2 u.tensionCount 1 else 1
  { u with tensionKind := some notNormal, tensionCount := count
           tensionFault := if count = 2 then notNormal else u.tensionFault }

/-- A tension report (R123). -/
def tensionReport (l : Lane) (t : Tension) (s : State) : State :=
  transportPresent l (updAlarms l (tensionRun (t != .normal)) s)

/-- A silence expiry report (R123). -/
def silenceReport (l : Lane) (s : State) : State :=
  transportPresent l (updAlarms l (fun u => { u with silence := true }) s)

/-- A lines resumed report (R123). -/
def linesResumed (l : Lane) (s : State) : State :=
  transportPresent l (updAlarms l (fun u => { u with silence := false }) s)

/-- The STALL source's three conditions, the first two read from the Shelving Controller as they stand (R124). -/
def stallCondition (l : Lane) (s : State) : Bool :=
  !(s.shelf.get l).timedOut.isEmpty || stoppedWaiting l s || (s.alarms.get l).recentAbandon

/-- A STALL report: the conditions are recomputed and present follows (R124). -/
def stallReport (l : Lane) (s : State) : State := changePresent l .stall (stallCondition l s) none s

/-- An abandonment of one of the lane's frames to a gap, reported (R56, R124). -/
def stallAbandoned (l : Lane) (s : State) : State :=
  stallReport l (updAlarms l (fun u => { u with recentAbandon := true }) s)

/-- A slot grant to the lane, reported (R51, R124). -/
def stallGranted (l : Lane) (s : State) : State :=
  stallReport l (updAlarms l (fun u => { u with recentAbandon := false }) s)

/-- "Stopped with frames waiting" is tested, and its result stands as the one last reported (R153). -/
def noteWaiting (l : Lane) (s : State) : State :=
  updShelf l (fun u => { u with waitingReported := stoppedWaiting l s }) s

/-- "Stopped with frames waiting" is tested and a change of its result reported (R153). -/
def reportWaiting (l : Lane) (s : State) : State :=
  if stoppedWaiting l s = (s.shelf.get l).waitingReported then s else stallReport l (noteWaiting l s)

/-- A BASE_SHIFT sample (R125). -/
def baseShiftSample (l : Lane) (frame : Nat) (shift : Bool) (s : State) : State :=
  changePresent l .baseShift shift (some frame) s

end Sys2Proof.Machine
end

