-- ==== Sys2Proof/Machine/Cells.lean ====
section
/-! DEFINITION. The cells the 612 sends, byte for byte: enumerated codes (R174), kind-specific words and payloads of
PACE, FRAME_HEAD, FRAME_DATA, FRAME_GAP, REPLY, NOTICE and CONDITION cells (R180 to R182). -/

namespace Sys2Proof.Machine

/-! ### Codes (R174) -/

/-- One byte. -/
def one (n : Nat) : Byte := BitVec.ofNat 8 n

/-- An optional field of `n` bytes, NONE all ones (R174). -/
def optBytes (n : Nat) (v : Option Nat) : List Byte := leBytes n (v.getD (256 ^ n - 1))

/-- A two-valued field (R174). -/
def flagByte (b : Bool) : Byte := one b.toNat

/-- The lane byte of a header (R179). -/
def laneByte : Lane → Byte
  | .a => 0#8
  | .b => 1#8

/-- Code of an alarm mode (R174). -/
def modeCode : Mode → Nat
  | .follow => 0
  | .ackThenClear => 1
  | .ackRelease => 2

/-- A response set as bits 0 to 4 (R174). -/
def responsesCode (r : Responses) : Nat :=
  r.paceSlow.toNat + 2 * r.paceHold.toNat + 4 * r.gradeBypass.toNat + 8 * r.shelfPause.toNat + 16 * r.markReview.toNat

/-- Code of a side (R174). -/
def sideCode : Side → Nat
  | .even => 0
  | .odd => 1

/-- Code of a shelf entry status (R174). -/
def statusCode : EntryStatus → Nat
  | .empty => 0
  | .ready => 1
  | .opened => 2
  | .full => 3
  | .failed => 4

/-- Code of a refusal reason (R182). -/
def reasonCode : Reason → Nat
  | .laneState => 1
  | .profileInvalid => 2
  | .badField => 3
  | .badLength => 4
  | .unknownCommand => 5
  | .bankLive => 6
  | .cuesArmed => 7
  | .cuesInvalid => 8
  | .entryOpen => 9
  | .notConfigured => 10

/-! ### PACE (R180) -/

/-- The PACE cell of a port (R133, R180). -/
def paceCell (l : Lane) (p : PaceCell) : Cell :=
  { kind := kindPace, lane := laneByte l, tag := 0#8
    word := levelCode p.level + 2 ^ 8 * levelCode p.occupancy + 2 ^ 16 * p.sources + 2 ^ 24 * p.idle.toNat
    payload := [] }

/-! ### Replies and notices (R182) -/

/-- The REPLY cell (R171, R182). -/
def replyCell (r : Reply) : Cell :=
  { kind := kindReply, lane := r.lane, tag := r.tag
    word := r.code.toNat + 2 ^ 8 * r.reason.isSome.toNat + 2 ^ 16 * (r.reason.map reasonCode).getD 0
    payload := r.data }

/-- The type of a notice (R182). -/
def noticeType : Notice → Nat
  | .firstUnrepairable _ _ => 1
  | .cuesSwapped _ _ => 2
  | .alarmRaised _ _ _ => 3
  | .alarmReleased _ _ _ => 4
  | .entryClosed _ _ _ _ _ => 5

/-- The payload of a notice (R182). -/
def noticePayload : Notice → List Byte
  | .firstUnrepairable serial frame => leBytes 2 serial.toNat ++ leBytes 4 frame
  | .cuesSwapped count frame => [one count] ++ optBytes 4 frame
  | .alarmRaised src count frame => [one (sourceCode src)] ++ leBytes 2 count ++ optBytes 4 frame
  | .alarmReleased src mode present => [one (sourceCode src), one (modeCode mode), flagByte present]
  | .entryClosed index status written remaining firstFailed =>
    [one index, one (statusCode status)] ++ leBytes 2 written ++ leBytes 2 remaining ++ optBytes 4 firstFailed

/-- The NOTICE cell (R176, R182). -/
def noticeCell (n : NoticeCell) : Cell :=
  { kind := kindNotice, lane := laneByte n.lane, tag := 0#8, word := noticeType n.notice
    payload := noticePayload n.notice }

/-! ### Condition cells (R182) -/

/-- The 149 bytes of a condition record (R182). -/
def conditionPayload (c : ConditionRecord) : List Byte :=
  leBytes 4 c.serial.toNat ++ leBytes 4 c.reel.toNat ++ leBytes 4 c.firstFrame ++ optBytes 4 c.lastNumbered
    ++ leBytes 4 c.numbered ++ leBytes 4 c.shelved ++ leBytes 4 c.gapped ++ leBytes 4 c.discarded
    ++ leBytes 4 c.extracted
    ++ leBytes 4 c.interpolated ++ leBytes 4 c.clamped ++ leBytes 4 c.incomplete ++ leBytes 4 c.spliced
    ++ leBytes 4 c.spurious ++ leBytes 4 c.synthesized
    ++ leBytes 4 c.lostEpisodes ++ leBytes 4 c.discontinuities
    ++ leBytes 4 c.dropout ++ leBytes 4 c.truncated
    ++ optBytes 4 c.ratioMin ++ optBytes 4 c.ratioMax ++ leBytes 8 c.ratioSum ++ optBytes 4 c.ratioMean
    ++ leBytes 4 c.defectRecords ++ leBytes 4 c.unrepairable
    ++ leBytes 4 c.overflowFrames ++ leBytes 4 c.cleanFrames ++ leBytes 4 c.repairedFrames ++ leBytes 4 c.partialFrames
    ++ leBytes 4 c.baseShifts
    ++ leBytes 2 c.raiseDamage ++ leBytes 2 c.raiseRegistration ++ leBytes 2 c.raiseTransport ++ leBytes 2 c.raiseStall
    ++ leBytes 2 c.raiseBaseShift
    ++ leBytes 4 c.shelfFailures ++ leBytes 4 c.staleAcks ++ leBytes 4 c.permille
    ++ [one (c.aborted.toNat + 2 * c.noFrames.toNat)] ++ optBytes 1 c.housing ++ optBytes 1 c.months

/-- The CONDITION cell (R167, R182). -/
def conditionCell (c : ConditionCell) : Cell :=
  { kind := kindCondition, lane := laneByte c.lane, tag := 0#8
    word := c.record.serial.toNat + 2 ^ 16 * c.previousLost.toNat, payload := conditionPayload c.record }

/-! ### Frame cells (R146, R147, R181) -/

/-- FRAME_DATA cells of a frame (R146): ceil(W * H / 30). -/
def frameDataCells (p : Profile) : Nat := (p.width * p.height + (Config.frameDataPixels - 1)) / Config.frameDataPixels

/-- The marks byte of a FRAME_HEAD (R181). -/
def marksByte (x : Slot) : Byte :=
  one (x.reg.interpolated.toNat + 2 * x.reg.clamped.toNat + 4 * x.incomplete.toNat + 8 * x.spliced.toNat
    + 16 * (x.graded.any Graded.bypassed).toNat + 32 * (x.graded.any Graded.review).toNat + 64 * x.ungraded.toNat
    + 128 * x.reoffer.toNat)

/-- The frame's base density was sampled (R44). -/
def isSampled : Density → Bool
  | .sampled _ => true
  | .noSample => false
  | .absent => false

/-- The base density bytes of a FRAME_HEAD; with "no sample" they are a free value (log entry 4). -/
def densityBytes (free : Nat) : Density → List Byte
  | .sampled d => leBytes 2 d
  | .noSample => leBytes 2 (Config.freeWord free).toNat
  | .absent => leBytes 2 (Config.freeWord free).toNat

/-- Code of a repair outcome (R181). -/
def outcomeCode : RepairOutcome → Nat
  | .clean => 0
  | .repaired => 1
  | .partially => 2

/-- Code of a curve set (R181). -/
def curveCode : CurveSet → Nat
  | .neutral => 8
  | .bank n => n

/-- The FRAME_HEAD cell of an offer, its frame in slot `x` (R146, R181). -/
def frameHead (l : Lane) (o : Offer) (x : Slot) (s : State) : Cell :=
  let u := s.shelf.get l
  let p := s.profile.get l
  { kind := kindFrameHead, lane := laneByte l, tag := 0#8, word := o.frame + 2 ^ 32 * o.number.toNat
    payload :=
      leBytes 2 x.serial.toNat ++ leBytes 4 (s.lane.get l).reel.toNat ++ leBytes 4 o.frame ++ leBytes 2 o.number.toNat
        ++ [one o.entry, marksByte x] ++ leBytes 2 (entryAt u o.entry).volume ++ leBytes 6 o.block
        ++ leBytes 2 u.blocksPerFrame ++ leBytes 2 p.width ++ leBytes 2 p.height ++ leBytes 4 x.reg.ratio
        ++ densityBytes s.freeIndex x.density ++ [flagByte (isSampled x.density)]
        ++ [one ((x.outcome.map outcomeCode).getD 0)]
        ++ [one ((x.graded.map fun g => curveCode g.curve).getD 8), one ((x.graded.map fun g => sideCode g.side).getD 0)]
        ++ leBytes 4 (frameDataCells p) }

/-- The bytes of a pixel (R181). -/
def pixelBytes (p : Pixel) : List Byte :=
  leBytes 2 p.r.toNat ++ leBytes 2 p.g.toNat ++ leBytes 2 p.b.toNat ++ leBytes 2 p.ir.toNat

/-- FRAME_DATA cell `i` of an offer (R146, R181). -/
def frameData (l : Lane) (o : Offer) (i : Nat) (x : Slot) : Cell :=
  { kind := kindFrameData, lane := laneByte l, tag := 0#8, word := o.number.toNat + 2 ^ 32 * i
    payload := ((x.picture.flatten.drop (Config.frameDataPixels * i)).take Config.frameDataPixels).flatMap pixelBytes }

/-- The FRAME_GAP cell of a gap (R147, R181). -/
def frameGap (l : Lane) (n : Nat) (s : State) : Cell :=
  { kind := kindFrameGap, lane := laneByte l, tag := 0#8, word := n + 2 ^ 32 * (s.lane.get l).serial.toNat
    payload := leBytes 4 (s.lane.get l).reel.toNat }

end Sys2Proof.Machine
end

