-- ==== Sys2Proof/Machine/Operands.lean ====
section
/-! DEFINITION. What a COMMAND cell's payload says: enumerated values (R174), records and their layouts (R183), and the
range checks of each table's rule (R3 to R5, R63, R76, R105, R130, R137, R163). -/

namespace Sys2Proof.Machine

/-- The lane a header's lane byte names (R171, R179). -/
def laneOfByte (b : Byte) : Option Lane := if b = 0#8 then some .a else if b = 1#8 then some .b else none

/-- A field whose NONE is all ones in `n` bytes (R174). -/
def optionalField (p : List Byte) (start n : Nat) : Option Nat :=
  if leField p start n = 256 ^ n - 1 then none else some (leField p start n)

/-- A two-valued field (R174). -/
def flagField (n : Nat) : Option Bool := if n = 0 then some false else if n = 1 then some true else none

/-- An action code (R174). -/
def actionField (n : Nat) : Option Action :=
  match n with
  | 0 => some .temporal
  | 1 => some .spatial
  | 2 => some .keep
  | 3 => some .unrepairable
  | _ => none

/-- ANY, YES or NO (R174). -/
def triField (n : Nat) : Option Tri :=
  match n with
  | 0 => some .any
  | 1 => some .yes
  | 2 => some .no
  | _ => none

/-- A select mode (R174). -/
def selectField (n : Nat) : Option SelectMode :=
  match n with
  | 0 => some .evenOnly
  | 1 => some .oddOnly
  | 2 => some .sensed
  | _ => none

/-- A source (R174). -/
def sourceField (n : Nat) : Option Source :=
  match n with
  | 0 => some .damage
  | 1 => some .registration
  | 2 => some .transport
  | 3 => some .stall
  | 4 => some .baseShift
  | _ => none

/-- An alarm mode (R174). -/
def modeField (n : Nat) : Option Mode :=
  match n with
  | 0 => some .follow
  | 1 => some .ackThenClear
  | 2 => some .ackRelease
  | _ => none

/-- A response set, bits 0 to 4; none where another bit is set (R130, R174). -/
def responsesField (n : Nat) : Option Responses :=
  if n < 32 then
    some { paceSlow := n.testBit 0, paceHold := n.testBit 1, gradeBypass := n.testBit 2
           shelfPause := n.testBit 3, markReview := n.testBit 4 }
  else none

/-- The sources an ACK_ALARM names: one, or all for 0xFF (R129, R174). -/
def ackSources (n : Nat) : Option (List Source) :=
  if n = 255 then some allSources else (sourceField n).map fun src => [src]

/-- `n` records of `size` bytes from byte `start` on, each read by `f`; none where one of them is refused. -/
def readRecords {α : Type} (f : List Byte → Option α) (p : List Byte) (start size : Nat) : Nat → Option (List α)
  | 0 => some []
  | n + 1 =>
    match f (p.drop start), readRecords f p (start + size) size n with
    | some x, some xs => some (x :: xs)
    | _, _ => none

/-! ### Profile (R3, R5, R183) -/

/-- A 16-bit two's complement field (R183). -/
def signedField (p : List Byte) (start : Nat) : Int := (BitVec.ofNat 16 (leField p start 2)).toInt

/-- The largest applied span, S_max (R5). -/
def largestSpan (k pitch : Nat) : Nat := (65 * k * pitch + 63) / 64

/-- The reach of a profile (R5). -/
def profileReach (p : Profile) : Nat := largestSpan p.k p.pitch + p.baseOffset + 16 * (p.baseLines + 1)

/-- A pair of columns lies within a width (R3). -/
def columnsFit (c : Columns) (width : Nat) : Bool := c.x0 ≤ c.x1 && c.x1 + 1 ≤ width

/-- The ranges of R3 and the reach condition of R5. -/
def profileInRange (p : Profile) : Bool :=
  1 ≤ p.k && p.k ≤ 6 && 1600 ≤ p.pitch && p.pitch ≤ 32000
    && decide (-32000 ≤ p.frameOffset) && decide (p.frameOffset ≤ 32000)
    && 64 ≤ p.width && p.width ≤ 4096 && 64 ≤ p.height && p.height ≤ 3200 && p.smoothing ≤ 4
    && p.irThreshold ≤ 65535 && 1 ≤ p.damageThreshold && p.damageThreshold ≤ 16777216
    && 1 ≤ p.spatialMax && p.spatialMax ≤ 256
    && p.bands.all (fun b => b.all fun c => columnsFit c p.width)
    && p.baseOffset ≤ 32000 && 1 ≤ p.baseLines && p.baseLines ≤ 32 && columnsFit p.baseColumns p.width
    && p.silenceCode ≤ 8 && profileReach p ≤ 131072

/-- A scratch band: present mark, x0, x1; the columns of an absent band are ignored (R183). -/
def readBand (p : List Byte) : Option (Option Columns) :=
  (flagField (leField p 0 1)).map fun present =>
    if present then some { x0 := leField p 1 2, x1 := leField p 3 2 } else none

/-- The profile record of a LOAD_PROFILE payload (R183), none where a field is out of range (R4 step 3). -/
def readProfile (p : List Byte) : Option Profile :=
  match readRecords readBand p 18 5 4, actionField (leField p 38 1) with
  | some bands, some action =>
    let q : Profile :=
      { k := leField p 0 1, pitch := leField p 1 2, frameOffset := signedField p 3, width := leField p 5 2
        height := leField p 7 2, smoothing := leField p 9 1, irThreshold := leField p 10 2
        damageThreshold := leField p 12 4, spatialMax := leField p 16 2, bands := bands, defaultAction := action
        baseOffset := leField p 39 2, baseLines := leField p 41 1
        baseColumns := { x0 := leField p 42 2, x1 := leField p 44 2 }, silenceCode := leField p 46 1 }
    if profileInRange q then some q else none
  | _, _ => none

/-! ### Classifier rules (R76, R183) -/

/-- The ranges of R76. -/
def ruleInRange (r : ClassifierRule) : Bool :=
  1 ≤ r.areaMin && r.areaMin ≤ r.areaMax && r.areaMax ≤ 16777215
    && 1 ≤ r.widthMin && r.widthMin ≤ r.widthMax && r.widthMax ≤ 4096
    && 1 ≤ r.heightMin && r.heightMin ≤ r.heightMax && r.heightMax ≤ 3200

/-- A classifier rule record, none where a field is out of range (R76, R183). -/
def readRule (p : List Byte) : Option ClassifierRule :=
  match flagField (leField p 0 1), triField (leField p 17 1), triField (leField p 18 1), actionField (leField p 19 1) with
  | some valid, some persistence, some band, some action =>
    let r : ClassifierRule :=
      { valid := valid, areaMin := leField p 1 4, areaMax := leField p 5 4, widthMin := leField p 9 2
        widthMax := leField p 11 2, heightMin := leField p 13 2, heightMax := leField p 15 2
        persistence := persistence, band := band, action := action }
    if ruleInRange r then some r else none
  | _, _, _, _ => none

/-! ### Cue entries (R105, R183) -/

/-- The ranges of R105. -/
def cueInRange (e : CueEntry) : Bool :=
  e.start ≤ Config.lastFrame && e.even ≤ 7 && e.odd ≤ 7 && e.threshold ≤ 65535 && e.hysteresis ≤ 4095
    && 1 ≤ e.interval && e.interval ≤ 16

/-- A cue entry record, none where a field is out of range (R105, R183). -/
def readCue (p : List Byte) : Option CueEntry :=
  match selectField (leField p 6 1) with
  | some mode =>
    let e : CueEntry :=
      { start := leField p 0 4, even := leField p 4 1, odd := leField p 5 1, mode := mode
        threshold := leField p 7 2, hysteresis := leField p 9 2, interval := leField p 11 1 }
    if cueInRange e then some e else none
  | none => none

/-! ### Housing table (R163, R183) -/

/-- A criterion in its range, or NONE (R163). -/
def criterionInRange (c : Option Nat) (top : Nat) : Bool := c.all fun v => v ≤ top

/-- A housing entry record, none where a criterion is out of range (R163, R183). -/
def readHousingEntry (p : List Byte) : Option HousingEntry :=
  let e : HousingEntry :=
    { ratioBelow := optionalField p 0 4, permille := optionalField p 4 2
      lostEpisodes := optionalField p 6 4, baseShifts := optionalField p 10 4 }
  if criterionInRange e.ratioBelow 2097151 && criterionInRange e.permille 1000
      && criterionInRange e.lostEpisodes 65535 && criterionInRange e.baseShifts 65535 then some e else none

/-- Re-inspection months in their range (R163). -/
def monthsInRange (n : Nat) : Bool := 1 ≤ n && n ≤ 240

/-- The housing table of a WRITE_HOUSING payload, none where a field is out of range (R164, R183). -/
def readHousing (p : List Byte) : Option HousingTable :=
  match readHousingEntry p, readHousingEntry (p.drop 14), readHousingEntry (p.drop 28) with
  | some e1, some e2, some e3 =>
    if monthsInRange (leField p 42 1) && monthsInRange (leField p 43 1) && monthsInRange (leField p 44 1)
        && monthsInRange (leField p 45 1) then
      some { e1 := e1, e2 := e2, e3 := e3, m0 := leField p 42 1, m1 := leField p 43 1, m2 := leField p 44 1
             m3 := leField p 45 1 }
    else none
  | _, _, _ => none

/-! ### Shelf entries (R137, R183) -/

/-- A shelf entry record as WRITE_SHELF leaves it: READY, nothing written (R138); none where the capacity is 0 or a
reserved flag bit is set (R183). -/
def readShelfEntry (p : List Byte) : Option ShelfEntry :=
  let capacity := leField p 8 2
  let flags := leField p 10 1
  if capacity = 0 || 4 ≤ flags then none
  else some
    { volume := leField p 0 2, startBlock := leField p 2 6, capacity := capacity, notify := flags.testBit 0
      eol := flags.testBit 1, status := .ready, written := 0, remaining := capacity, firstFailed := none
      nextPlace := 0, freePlaces := [] }

/-- Values of 2 bytes each of a WRITE_BANK payload (R183). -/
def readValue (p : List Byte) : Option Sample := some (BitVec.ofNat 16 (leField p 0 2))

/-- Consecutive items of a list replaced from an index on. -/
def writeFrom {α : Type} (xs : List α) (i : Nat) (new : List α) : List α :=
  xs.take i ++ new ++ xs.drop (i + new.length)

end Sys2Proof.Machine
end

