-- ==== Sys2Proof/Machine/Port.lean ====
section
/-! DEFINITION. The Archive Port's intake of commands: credit (R172), command code and lane checks, one reply for each
command taken (R171). -/

namespace Sys2Proof.Machine

/-- What a command is answered: DONE or REFUSED with its reason, and the reply data (R171, R184). -/
structure Answer where
  reason : Option Reason
  data : List Byte
deriving DecidableEq, Repr

/-- DONE with reply data. -/
def done (data : List Byte) : Answer := { reason := none, data := data }

/-- REFUSED with a reason; a refused reply carries no data (R184). -/
def refused (r : Reason) : Answer := { reason := some r, data := [] }

/-- Command credit is granted: the archive link is UP and the reply queue has a free place (R172). -/
def commandCredit (s : State) : Bool := s.archive.up && s.archive.replies.length < Config.replyQueueSize

/-- A COMMAND cell sent against the credit is dropped and counted (R172). -/
def overrun (s : State) : State :=
  updArchive (fun p => { p with overruns := heldAdd shortTop p.overruns 1 }) s

/-- The REPLY cell of a command at the end of the reply queue (R171). -/
def putReply (code : Byte) (c : CommandCell) (a : Answer) (s : State) : State :=
  updArchive (fun p => { p with replies := p.replies ++
    [{ code := code, lane := c.lane, tag := c.tag, reason := a.reason, data := a.data }] }) s

/-- A COMMAND cell arrives: nothing arrives on a link that is DOWN (R169), it is dropped and counted without credit
(R172), else taken and answered (R171). -/
def takeCommand (code : Byte) (c : CommandCell) (body : State → State × Answer) (s : State) : State :=
  if commandCredit s then
    let r := body s
    putReply code c r.2 r.1
  else if s.archive.up then overrun s
  else s

/-- The lane check of a command that acts on a lane (R171 step 2). -/
def onLane (c : CommandCell) (body : Lane → State → State × Answer) (s : State) : State × Answer :=
  match laneOfByte c.lane with
  | some l => body l s
  | none => (s, refused .badField)

/-- A refusal: a refused command changes nothing (R171). -/
def refuse (r : Reason) (s : State) : State × Answer := (s, refused r)

/-- The payload has the length of the command's cell, else BAD_LENGTH (R171, R183). -/
def withLength (c : CommandCell) (n : Nat) (body : State → State × Answer) (s : State) : State × Answer :=
  if c.payload.length = n then body s else refuse .badLength s

/-- The payload has the length of `count` records of `size` bytes after `front` bytes, the count lying in
its range (R183). -/
def countedLength (c : CommandCell) (front size least most count : Nat) : Bool :=
  least ≤ count && count ≤ most && c.payload.length = front + size * count

end Sys2Proof.Machine
end

