-- ==== Sys2Proof/Machine/AlarmCommands.lean ====
section
/-! DEFINITION. The commands of the Alarm Controller: SET_ALARM (R130), ACK_ALARM (R129). -/

namespace Sys2Proof.Machine

/-! ### SET_ALARM (R130) -/

/-- A record given a mode and a response set (R130). -/
def givenRecord (m : Mode) (rs : Responses) (r : AlarmRecord) : AlarmRecord :=
  { r with responses := rs, pendingMode := if m = r.mode then none else some m }

/-- SET_ALARM of a source; the responses in force are recomputed if its record is in force (R130, R131). -/
def giveAlarm (l : Lane) (src : Source) (m : Mode) (rs : Responses) (s : State) : State :=
  let t := updRecord l src (givenRecord m rs) s
  if (alarmRecord l src s).inForce then recomputeResponses l t else t

/-- SET_ALARM on a lane, its length checked (R130). -/
def setAlarmOn (c : CommandCell) (l : Lane) (s : State) : State × Answer :=
  match sourceField (leField c.payload 0 1), modeField (leField c.payload 1 1), responsesField (leField c.payload 2 1) with
  | some src, some m, some rs => (giveAlarm l src m rs s, done [])
  | _, _, _ => refuse .badField s

/-- SET_ALARM (R130). -/
def execSetAlarm (c : CommandCell) (s : State) : Host.Outcome State Fault Refusal :=
  .next (takeCommand 0x20#8 c (onLane c fun l => withLength c 3 (setAlarmOn c l)) s)

/-! ### ACK_ALARM (R129) -/

/-- A record acknowledged: ack received is set while it is raised (R129). -/
def acknowledgedRecord (r : AlarmRecord) : AlarmRecord := { r with ack := r.ack || r.raised }

/-- An acknowledge would be recorded: raised, ack received clear (R129). -/
def recordsAck (r : AlarmRecord) : Bool := r.raised && !r.ack

/-- The named sources whose acknowledge this command records, one bit per source code (R129, R184). -/
def recordedAcks (l : Lane) (named : List Source) (s : State) : Nat :=
  named.foldl (fun n src => if recordsAck (alarmRecord l src s) then n + 2 ^ sourceCode src else n) 0

/-- The named sources acknowledged, then the evaluation of a lane outside RUNNING (R127, R129). -/
def acknowledge (l : Lane) (named : List Source) (s : State) : State :=
  evaluateOutside l (named.foldl (fun t src => updRecord l src acknowledgedRecord t) s)

/-- ACK_ALARM on a lane, its length checked (R129). -/
def ackAlarmOn (c : CommandCell) (l : Lane) (s : State) : State × Answer :=
  match ackSources (leField c.payload 0 1) with
  | none => refuse .badField s
  | some named => (acknowledge l named s, done [one (recordedAcks l named s)])

/-- ACK_ALARM (R129). -/
def execAckAlarm (c : CommandCell) (s : State) : Host.Outcome State Fault Refusal :=
  .next (takeCommand 0x21#8 c (onLane c fun l => withLength c 1 (ackAlarmOn c l)) s)

end Sys2Proof.Machine
end

