-- ==== Sys2Proof/Machine/Condition.lean ====
section
/-! DEFINITION. The Condition Unit: housing class (R163, R166), finalisation (R162, R165), condition queue (R167). -/

namespace Sys2Proof.Machine

/-- A criterion that is not NONE and whose test holds (R163). -/
def criterionMet (c : Option Nat) (test : Nat → Bool) : Bool := c.any test

/-- A housing table entry is met by a record with its permille written (R163). -/
def entryMet (e : HousingEntry) (c : ConditionRecord) : Bool :=
  criterionMet e.ratioBelow (fun v => c.ratioMin.any fun m => m < v)
    || criterionMet e.permille (fun v => v ≤ c.permille)
    || criterionMet e.lostEpisodes (fun v => v ≤ c.lostEpisodes)
    || criterionMet e.baseShifts (fun v => v ≤ c.baseShifts)

/-- The housing class (R166). -/
def housingClass (t : HousingTable) (c : ConditionRecord) : Nat :=
  if c.numbered = 0 then 3
  else if entryMet t.e3 c then 3
  else if entryMet t.e2 c then 2
  else if entryMet t.e1 c then 1
  else 0

/-- The re-inspection months of a class's entry (R166). -/
def monthsOf (t : HousingTable) : Nat → Nat
  | 0 => t.m0
  | 1 => t.m1
  | 2 => t.m2
  | _ => t.m3

/-- The record after finalisation (R165 steps 1 to 5; the discards of an abort are already tallied). -/
def finalRecord (t : HousingTable) (aborted : Bool) (c : ConditionRecord) : ConditionRecord :=
  let c := { c with
    aborted := c.aborted || aborted
    ratioMean := if c.extracted = 0 then none else some (c.ratioSum / c.extracted)
    permille := if c.numbered = 0 then 0 else 1000 * c.partialFrames / c.numbered }
  let h := housingClass t c
  { c with noFrames := c.numbered = 0, housing := some h, months := some (monthsOf t h) }

/-- A CONDITION cell of the lane whose sending has not begun (R167). -/
def unsentCell (l : Lane) (c : ConditionCell) : Bool := c.lane = l && !c.begun

/-- The lane's CONDITION cell is placed in the condition queue (R167). -/
def placeCondition (l : Lane) (r : ConditionRecord) (q : List ConditionCell) : List ConditionCell :=
  q.filter (fun c => !unsentCell l c) ++ [{ lane := l, record := r, previousLost := q.any (unsentCell l), begun := false }]

/-- The lane's condition record is finalised and its CONDITION cell queued (R165). -/
def finalise (l : Lane) (aborted : Bool) (s : State) : State :=
  let r := finalRecord s.housing aborted (s.cond.get l).record
  updCondQueue (placeCondition l r) (updCond l (fun _ => { condition := .finalised, record := r }) s)

/-- The record at BEGIN_REEL: OPEN, CLEARED values, pass serial, reel identifier and first frame written (R159). -/
def openedRecord (r : LaneRecord) : ConditionUnit :=
  { condition := .opened
    record := { recordCleared with serial := r.serial, reel := r.reel, firstFrame := r.firstFrame } }

end Sys2Proof.Machine
end

