-- ==== Sys2Proof/Machine/Geometry.lean ====
section
/-! DEFINITION. Registration arithmetic (R30, R31, R35, R39 to R41), the strip buffer's answers (R26), and what an
extraction computes from the strip (R43, R44). -/

namespace Sys2Proof.Machine

/-! ### The strip buffer (R26) -/

/-- What the strip answers for a line number (R26). -/
inductive StripAnswer where
  | held (line : StripLine)
  | notYet
  | older
deriving DecidableEq, Repr

/-- The strip's answer for line number `n`; the strip holds its newest line first (R26). -/
def stripAnswer (strip : List StripLine) (n : LineNumber) : StripAnswer :=
  match strip with
  | [] => .notYet
  | newest :: _ =>
    match strip[(newest.number - n).toNat]? with
    | some line => .held line
    | none => if ahead n newest.number then .notYet else .older

/-- A line stored as the newest; the oldest of 8192 is discarded (R26). -/
def stripStore (line : StripLine) (strip : List StripLine) : List StripLine :=
  (line :: strip).take Config.stripDepth

/-! ### Edges and ratios -/

/-- Expected pitch E (R30), also E_L of a relock (R35). -/
def expectedPitch (p : Profile) (prev : Option Nat) : Nat :=
  roundHalfUp (p.pitch * prev.getD Config.ratioOne) Config.ratioOne

/-- Classes of a new edge (R31). -/
inductive EdgeClass where
  | spurious
  | accepted
  | gap (missing : Nat)
deriving DecidableEq, Repr

/-- The class of an edge of pitch `p` against the expected pitch `e` (R31). -/
def classifyEdge (p e : Nat) : EdgeClass :=
  if 2 * p < e then .spurious
  else if 2 * p ≤ 3 * e then .accepted
  else .gap (roundHalfUp p e - 1)

/-- Position of synthesized edge `m` of a gap of pitch `p` (R32). -/
def synthesizedAt (last : Position) (p missing m : Nat) : Position :=
  last + BitVec.ofNat 36 (roundHalfUp (m * p) (missing + 1))

/-- Skipped frames of a relock (R35 step 1). -/
def skippedFrames (k : Nat) (eL : Nat) (d : Nat) : Nat :=
  min Config.relockGapLimit (roundHalfUp d (k * eL) - 1)

/-- Measured ratio (R39 step 2). -/
def measuredRatio (p : Profile) (span : Nat) : Nat := roundHalfUp (Config.ratioOne * span) (p.k * p.pitch)

/-- The clamp of R39 step 3. -/
def clampRatio (r : Nat) : Nat := max Config.ratioLow (min r Config.ratioHigh)

/-- Applied ratio R_a (R40). -/
def appliedRatio (g : Nat) (unsmoothed : Bool) (prev : Option Nat) (rc : Nat) : Nat :=
  match prev with
  | none => rc
  | some rp =>
    if unsmoothed || g = 0 then rc
    else ((rp : Int) + Int.fdiv ((rc : Int) - (rp : Int) + (2 ^ (g - 1) : Nat)) ((2 ^ g : Nat) : Int)).toNat

/-- Applied span S_a (R41). -/
def appliedSpan (p : Profile) (ra : Nat) : Nat := roundHalfUp (p.k * p.pitch * ra) Config.ratioOne

/-- Frame origin F0 (R41). -/
def frameOrigin (p : Profile) (reference : Position) : Position := reference + BitVec.ofInt 36 p.frameOffset

/-- The registration values of a frame closed with these edges (R38 steps 2 and 3, R39 to R41). -/
def registerFrame (p : Profile) (unsmoothed : Bool) (prev : Option Nat) (reference closing : Position)
    (interpolated : Bool) : FrameReg :=
  let rm := measuredRatio p (closing - reference).toNat
  let ra := appliedRatio p.smoothing unsmoothed prev (clampRatio rm)
  { ratio := ra, span := appliedSpan p ra, origin := frameOrigin p reference, reference := reference
    closing := closing, interpolated := interpolated, clamped := clampRatio rm != rm }

/-! ### Lines of an extraction (R41) -/

/-- The line a position lies in (R41). -/
def lineOf (y : Position) : LineNumber := BitVec.ofNat 32 (y.toNat / 16)

/-- The fraction of a position, 0 to 15 (R41). -/
def fractionOf (y : Position) : Nat := y.toNat % 16

/-- Source position Y_j of output line j (R41). -/
def sourcePosition (p : Profile) (r : FrameReg) (j : Nat) : Position :=
  r.origin + BitVec.ofNat 36 (roundHalfUp (j * r.span) p.height)

/-- First line of the base-sense band, B0 (R41). -/
def bandFirst (p : Profile) (r : FrameReg) : LineNumber :=
  lineOf (r.origin + BitVec.ofNat 36 (r.span + p.baseOffset))

/-- First needed line, L_0 (R52). -/
def firstNeeded (r : FrameReg) : LineNumber := lineOf r.origin

/-- The later of two line numbers (R23, R41). -/
def laterLine (x y : LineNumber) : LineNumber := if ahead y x then y else x

/-- Last needed line (R41). -/
def lastNeeded (p : Profile) (r : FrameReg) : LineNumber :=
  laterLine (lineOf (sourcePosition p r (p.height - 1)) + 1) (bandFirst p r + BitVec.ofNat 32 (p.baseLines - 1))

/-- The extraction no longer waits: its last needed line is not answered "not yet received" (R42). -/
def extractionDue (strip : List StripLine) (p : Profile) (r : FrameReg) : Bool :=
  stripAnswer strip (lastNeeded p r) != .notYet

/-! ### Pictures (R43) -/

/-- Black in all four channels (R24). -/
def blackPixel : Pixel := { r := 0, g := 0, b := 0, ir := 0 }

/-- An output sample from samples a and b at fraction f (R43). -/
def mixSample (f : Nat) (a b : Sample) : Sample := BitVec.ofNat 16 ((a.toNat * (16 - f) + b.toNat * f + 8) / 16)

/-- An output pixel (R43). -/
def mixPixel (f : Nat) (a b : Pixel) : Pixel :=
  { r := mixSample f a.r b.r, g := mixSample f a.g b.g, b := mixSample f a.b b.b, ir := mixSample f a.ir b.ir }

/-- Output line j, and whether it makes the frame INCOMPLETE (R43). A source line that the strip answers "not yet received" at
the end of the extraction is treated as older than the strip holds: the model's choice (log entry 23). -/
def outputLine (strip : List StripLine) (p : Profile) (r : FrameReg) (j : Nat) : List Pixel × Bool :=
  let y := sourcePosition p r j
  match stripAnswer strip (lineOf y), stripAnswer strip (lineOf y + 1) with
  | .held a, .held b => (List.zipWith (mixPixel (fractionOf y)) a.pixels b.pixels, a.filled || b.filled)
  | _, _ => (List.replicate p.width blackPixel, true)

/-- Every output line of the frame (R43). -/
def outputLines (strip : List StripLine) (p : Profile) (r : FrameReg) : List (List Pixel × Bool) :=
  (List.range p.height).map (outputLine strip p r)

/-! ### Base density (R44) -/

/-- The band's lines as the strip answers them (R41). -/
def bandAnswers (strip : List StripLine) (p : Profile) (r : FrameReg) : List StripAnswer :=
  (List.range p.baseLines).map fun i => stripAnswer strip (bandFirst p r + BitVec.ofNat 32 i)

/-- Sum of the green samples of a line over columns x0 to x1 (R44). -/
def greenSum (c : Columns) (line : StripLine) : Nat :=
  (((line.pixels.drop c.x0).take (c.x1 + 1 - c.x0)).map fun x => x.g.toNat).sum

/-- The green sum of band lines, none if a line is not held or is filled (R44). -/
def bandGreen (c : Columns) : List StripAnswer → Option Nat
  | [] => some 0
  | .held line :: rest => if line.filled then none else (bandGreen c rest).map (greenSum c line + ·)
  | _ :: _ => none

/-- Base density D of a frame (R44). -/
def baseDensity (strip : List StripLine) (p : Profile) (r : FrameReg) (spliced : Bool) : Density :=
  if spliced then .noSample
  else match bandGreen p.baseColumns (bandAnswers strip p r) with
    | none => .noSample
    | some n => .sampled (n / (p.baseLines * (p.baseColumns.x1 + 1 - p.baseColumns.x0)))

/-- Position q lies in [reference, closing) (R37). -/
def insideSpan (r : FrameReg) (q : Position) : Bool := (q - r.reference).toNat < (r.closing - r.reference).toNat

/-- Position q lies behind the splice horizon (R36). -/
def behindHorizon (h q : Position) : Bool := 1 ≤ (h - q).toNat && (h - q).toNat ≤ 2 ^ 35

end Sys2Proof.Machine
end

