-- ==== Sys2Proof/Machine/FrameStore.lean ====
section
/-! DEFINITION. The Frame Store: occupancy (R62), allocation and grant (R50, R51), the slot wait and abandonment
(R52 to R56), extraction end (R42, R45), release (R58 to R60). -/

namespace Sys2Proof.Machine

/-! ### Occupancy (R62) -/

/-- The level after a held count, by the table of R62. -/
def occupancyAfter (o : Occupancy) (held : Nat) : Level :=
  match o.level with
  | .normal => if o.hold ≤ held then .hold else if o.slow ≤ held then .slow else .normal
  | .slow => if o.hold ≤ held then .hold else if held + 2 ≤ o.slow then .normal else .slow
  | .hold => if held + 2 ≤ o.slow then .normal else if held + 2 ≤ o.hold then .slow else .hold

/-- The lane's occupancy level is re-evaluated; a change is reported to the Alarm Controller (R62, R64). -/
def reviewOccupancy (l : Lane) (s : State) : State :=
  let v := occupancyAfter (s.occupancy.get l) (heldCount l s)
  if v = (s.occupancy.get l).level then s
  else recomputePace l (updOccupancy l (fun o => { o with level := v }) s)

/-! ### Splice list (R36, R37) -/

/-- The reference edge of the lane's oldest frame in extraction or pending (R36). -/
def oldestReference (l : Lane) (s : State) : Option (Nat × Position) :=
  let flight := ((laneSlots l s).filter fun x => x.stage = .extracting).map fun x => (x.frame, x.reg.reference)
  let pend := (s.reg.get l).pendingFrame.toList.map fun p => (p.frame, p.reg.reference)
  (flight ++ pend).foldl (fun m x => match m with | none => some x | some y => if x.1 < y.1 then some x else some y) none

/-- The splice horizon (R36). -/
def spliceHorizon (l : Lane) (s : State) : Option Position :=
  match oldestReference l s with
  | some (_, r) => some r
  | none => (s.reg.get l).openFrame.bind fun es => es.head?.map Edge.position

/-- Splice positions the horizon has passed are removed (R36). -/
def purgeSplices (l : Lane) (s : State) : State :=
  match spliceHorizon l s with
  | none => s
  | some h => updReg l (fun u => { u with splices := u.splices.filter fun q => !behindHorizon h q }) s

/-! ### Extraction (R42 to R45) -/

/-- The tallies of an extraction end (R45, R162). -/
def tallyExtraction (x : Slot) (c : ConditionRecord) : ConditionRecord :=
  { c with
    extracted := heldAdd frameTop c.extracted 1
    interpolated := heldAdd frameTop c.interpolated x.reg.interpolated.toNat
    clamped := heldAdd frameTop c.clamped x.reg.clamped.toNat
    incomplete := heldAdd frameTop c.incomplete x.incomplete.toNat
    spliced := heldAdd frameTop c.spliced x.spliced.toNat
    ratioMin := some (match c.ratioMin with | none => x.reg.ratio | some m => min m x.reg.ratio)
    ratioMax := some (match c.ratioMax with | none => x.reg.ratio | some m => max m x.reg.ratio)
    ratioSum := heldAdd (2 ^ 48 - 1) c.ratioSum x.reg.ratio }

/-- The slot after its extraction has ended: picture, marks, base density, stage DETECTING (R43 to R45). -/
def extractedSlot (strip : List StripLine) (p : Profile) (splices : List Position) (x : Slot) : Slot :=
  let lines := outputLines strip p x.reg
  let spliced := splices.any (insideSpan x.reg)
  { x with
    picture := lines.map Prod.fst
    incomplete := lines.any Prod.snd
    spliced := spliced
    density := baseDensity strip p x.reg spliced
    stage := .detecting }

/-- The extraction of frame `n` ends (R42, R45). -/
def endExtraction (l : Lane) (n : Nat) (s : State) : State :=
  match frameSlot l n s with
  | none => s
  | some x =>
    let u := s.reg.get l
    let y := extractedSlot u.strip (s.profile.get l) u.splices x
    let t := updFrame l n (fun _ => y) s
    let t := updReg l (fun v => { v with splices := v.splices.filter fun q => !insideSpan x.reg q }) t
    let t := tally l (tallyExtraction y) t
    let t := updDefect (fun d => { d with waitOrder := d.waitOrder ++ [{ lane := l, frame := n }] }) t
    purgeSplices l t

/-- The extraction of frame `n` ends if it is in flight and its last needed line is no longer awaited (R42). -/
def tryEndExtraction (l : Lane) (s : State) (n : Nat) : State :=
  match frameSlot l n s with
  | some x =>
    if x.stage = .extracting && extractionDue (s.reg.get l).strip (s.profile.get l) x.reg then endExtraction l n s else s
  | none => s

/-- Every extraction of the lane that is due ends (R42), in the order of the slots: the model's choice (log entry 25). -/
def endExtractions (l : Lane) (s : State) : State :=
  (((laneSlots l s).filter fun x => x.stage = .extracting).map Slot.frame).foldl (tryEndExtraction l) s

/-! ### Allocation (R50, R51) -/

/-- The lane's shortfall (R50). -/
def shortfall (l : Lane) (s : State) : Nat := Config.laneQuota - heldCount l s

/-- The lane is granted a slot (R50). -/
def canGrant (l : Lane) (s : State) : Bool :=
  0 < freeCount s &&
    (heldCount l s < Config.laneQuota ||
      (heldCount l s < Config.laneSlotLimit && shortfall (otherLane l) s + 1 ≤ freeCount s))

/-- The slot of a frame just granted (R51). -/
def grantedSlot (l : Lane) (p : PendingFrame) : Slot :=
  { lane := l, serial := p.serial, frame := p.frame, stage := .extracting, reg := p.reg, incomplete := false
    spliced := false, density := .absent, defects := none, outcome := none, stamp := p.stamp, graded := none
    ungraded := p.stamp = .neutral, offer := none, entry := none, ack := .notOffered, reoffer := false, picture := [] }

/-- The lowest-numbered FREE slot filled (R51). -/
def fillLowest (x : Slot) : List (Option Slot) → List (Option Slot)
  | [] => []
  | none :: rest => some x :: rest
  | some y :: rest => some y :: fillLowest x rest

/-- The pending frame takes a slot: it is placed, and its extraction starts (R51, R9, R42). The occupancy level is re-evaluated
(R62) before the STALL report of the grant (R124): the model's choice (log entry 24). -/
def grantSlot (l : Lane) (p : PendingFrame) (s : State) : State :=
  let t := updSlots (fillLowest (grantedSlot l p)) s
  let t := updReg l (fun u => { u with pendingFrame := none }) t
  let t := updRequests (fun r => r.erase l) t
  let t := reviewOccupancy l (placeNumber l p.frame t)
  let t := stallGranted l t
  tryEndExtraction l t p.frame

/-- The lane's pending frame takes a slot if R50 grants one. -/
def tryGrant (l : Lane) (s : State) : State :=
  match (s.reg.get l).pendingFrame with
  | some p => if canGrant l s then grantSlot l p s else s
  | none => s

/-- FREE slots are offered to the pending extractions in request order (R53). -/
def offerFree (s : State) : State := s.requests.foldl (fun t l => tryGrant l t) s

/-! ### Gaps (R10, R56) -/

/-- A frame number is placed as a gap: numbered, gapped, unsent (R9, R10, R56, R147). -/
def placeGap (l : Lane) (n : Nat) (s : State) : State :=
  updShelf l (fun u => { u with gaps := insertAscending n u.gaps })
    (tally l (fun c => { c with gapped := heldAdd frameTop c.gapped 1 }) (placeNumber l n s))

/-- The pending frame is abandoned to a gap (R56). Its STALL report comes before the release of the slot that the gap settles (R58
to R60): the model's choice (log entry 33). -/
def abandonPending (l : Lane) (s : State) : State :=
  match (s.reg.get l).pendingFrame with
  | none => s
  | some p =>
    let t := updReg l (fun u => { u with pendingFrame := none }) s
    let t := updRequests (fun r => r.erase l) t
    let t := placeGap l p.frame t
    let t := updGrading (fun g => { g with stamps := g.stamps.filter fun e => !(e.lane = l && e.frame = p.frame) }) t
    stallAbandoned l t

/-- The strip answers the pending frame's first needed line "older than the strip holds" (R52, R54). -/
def pendingLost (l : Lane) (s : State) : Bool :=
  (s.reg.get l).pendingFrame.any fun p => stripAnswer (s.reg.get l).strip (firstNeeded p.reg) = .older

/-- The pending frame is abandoned if its first needed line is lost (R52, R54). -/
def abandonLost (l : Lane) (s : State) : State := if pendingLost l s then abandonPending l s else s

/-! ### Release (R58 to R60) -/

/-- The slot of frame `n` becomes FREE, the occupancy is reviewed and the slot offered to pending extractions (R58). -/
def freeFrame (l : Lane) (n : Nat) (s : State) : State :=
  offerFree (reviewOccupancy l
    (updSlots (fun t => t.map fun o => if o.any (holdsFrame l (s.lane.get l).serial n) then none else o) s))

/-- A slot is freed if its frame is acknowledged and its successor settled (R58). -/
def tryRelease (s : State) (r : FrameRef) : State :=
  if frameAt r.lane r.frame [.shelvedHeld] s && successorSettled r.lane r.frame s then freeFrame r.lane r.frame s else s

/-- Every slot that R58 frees is freed (R60), one after another in the order of the slots: the model's choice (log entry 35). -/
def releaseSlots (s : State) : State :=
  (((s.slots.filterMap id).filter fun x => x.stage = .shelvedHeld).map
    fun x => { lane := x.lane, frame := x.frame : FrameRef }).foldl tryRelease s

end Sys2Proof.Machine
end

