-- ==== Sys2Proof/Machine/Detect.lean ====
section
/-! DEFINITION. The Defect Unit (chapter 4): runs and records (R69 to R72), persistence, band hit and classification
(R73 to R78), which frame is detected next (R66, R67). -/

namespace Sys2Proof.Machine

/-! ### Runs (R69) -/

/-- A run of defective pixels on one output line, columns a to b (R69). -/
structure Run where
  y : Nat
  a : Nat
  b : Nat
deriving DecidableEq, Repr

/-- A pixel is defective when its IR sample is below the threshold (R69). -/
def isDefective (threshold : Nat) (p : Pixel) : Bool := p.ir.toNat < threshold

/-- The runs of a line from column `x` on, `start` being the first column of a run still open (R69). -/
def runsFrom (threshold y : Nat) : List Pixel → Nat → Option Nat → List Run
  | [], x, some a => [{ y := y, a := a, b := x - 1 }]
  | [], _, none => []
  | p :: rest, x, start =>
    if isDefective threshold p then runsFrom threshold y rest (x + 1) (some (start.getD x))
    else
      match start with
      | some a => { y := y, a := a, b := x - 1 } :: runsFrom threshold y rest (x + 1) none
      | none => runsFrom threshold y rest (x + 1) none

/-- The runs of an output line (R69). -/
def lineRuns (threshold y : Nat) (line : List Pixel) : List Run := runsFrom threshold y line 0 none

/-- Two runs share at least one column (R69). -/
def runsOverlap (p q : Run) : Bool := p.a ≤ q.b && q.a ≤ p.b

/-! ### Records (R70 to R72) -/

/-- A group of runs holds a run of the line before `r`'s that overlaps `r` (R70). -/
def touches (r : Run) (g : List Run) : Bool := g.any fun q => q.y + 1 = r.y && runsOverlap q r

/-- A run joins the open records it touches, merged, or begins a new one (R70). -/
def joinRun (groups : List (List Run)) (r : Run) : List (List Run) :=
  (groups.filter fun g => !touches r g) ++ [(groups.filter (touches r)).flatten ++ [r]]

/-- The open and the completed records while the lines are read (R70, R71). -/
structure Scan where
  opened : List (List Run)
  completed : List (List Run)
deriving DecidableEq, Repr

/-- One line read: its runs join, and the records without a run on it are completed (R70, R71). -/
def scanLine (threshold : Nat) (s : Scan) (line : Nat × List Pixel) : Scan :=
  let groups := (lineRuns threshold line.1 line.2).foldl joinRun s.opened
  let live := fun g : List Run => g.any fun q => q.y = line.1
  { opened := groups.filter live, completed := s.completed ++ groups.filter fun g => !live g }

/-- The lines of a picture with their numbers. -/
def numberedLines (picture : List (List Pixel)) : List (Nat × List Pixel) :=
  (List.range picture.length).zip picture

/-- Every record of a picture as its runs (R70). -/
def recordRuns (threshold : Nat) (picture : List (List Pixel)) : List (List Run) :=
  let s := (numberedLines picture).foldl (scanLine threshold) { opened := [], completed := [] }
  s.completed ++ s.opened

/-- Least of a list of numbers, 0 of none. -/
def least : List Nat → Nat
  | [] => 0
  | [n] => n
  | n :: rest => min n (least rest)

/-- Greatest of a list of numbers, 0 of none. -/
def greatest (xs : List Nat) : Nat := xs.foldl max 0

/-- Box and area of a record, with the first column of its leftmost run on its last line (R71, R73). -/
structure RecordBox where
  x0 : Nat
  x1 : Nat
  y0 : Nat
  y1 : Nat
  area : Nat
  leftmost : Nat
deriving DecidableEq, Repr

/-- Pixels of a list of runs (R73). -/
def runArea (g : List Run) : Nat := (g.map fun r => r.b + 1 - r.a).sum

/-- The box of a record (R73). -/
def recordBox (g : List Run) : RecordBox :=
  let y1 := greatest (g.map Run.y)
  { x0 := least (g.map Run.a), x1 := greatest (g.map Run.b), y0 := least (g.map Run.y), y1 := y1
    area := runArea g, leftmost := least ((g.filter fun r => r.y = y1).map Run.a) }

/-- Order of completion: last line, then first column, then leftmost run of the last line (R71). -/
def completesBefore (p q : RecordBox) : Bool :=
  p.y1 < q.y1 || (p.y1 = q.y1 && (p.x0 < q.x0 || (p.x0 = q.x0 && p.leftmost ≤ q.leftmost)))

/-- A record placed in order of completion (R71). -/
def insertRecord (r : RecordBox) : List RecordBox → List RecordBox
  | [] => [r]
  | q :: rest => if completesBefore r q then r :: q :: rest else q :: insertRecord r rest

/-- The records of a picture in order of completion (R71). -/
def completedRecords (threshold : Nat) (picture : List (List Pixel)) : List RecordBox :=
  ((recordRuns threshold picture).map recordBox).foldr insertRecord []

/-! ### Classification (R74 to R78) -/

/-- Two boxes share a column and a line (R73). -/
def boxesOverlap (ax0 ax1 ay0 ay1 bx0 bx1 by0 by1 : Nat) : Bool :=
  ax0 ≤ bx1 && bx0 ≤ ax1 && ay0 ≤ by1 && by0 ≤ ay1

/-- The boxes of two defect records overlap (R73, R88). -/
def recordsOverlap (p q : DefectRecord) : Bool := boxesOverlap p.x0 p.x1 p.y0 p.y1 q.x0 q.x1 q.y0 q.y1

/-- Band hit (R75). -/
def bandHit (bands : List (Option Columns)) (x0 x1 : Nat) : Bool :=
  bands.any fun b => b.any fun c => x0 ≤ c.x1 && c.x0 ≤ x1

/-- A condition ANY, YES or NO holds of a property (R76). -/
def triHolds (t : Tri) (v : Bool) : Bool :=
  match t with
  | .any => true
  | .yes => v
  | .no => !v

/-- A rule matches a record (R76, R78). -/
def ruleMatches (r : ClassifierRule) (area width height : Nat) (persistence band : Bool) : Bool :=
  r.valid && r.areaMin ≤ area && area ≤ r.areaMax && r.widthMin ≤ width && width ≤ r.widthMax
    && r.heightMin ≤ height && height ≤ r.heightMax && triHolds r.persistence persistence && triHolds r.band band

/-- A kept record with its classification (R73, R78); `previous` are the kept records persistence compares with (R74). -/
def classify (rules : List ClassifierRule) (p : Profile) (previous : List DefectRecord) (b : RecordBox) : DefectRecord :=
  let persistence := previous.any fun q => boxesOverlap b.x0 b.x1 b.y0 b.y1 q.x0 q.x1 q.y0 q.y1
  let band := bandHit p.bands b.x0 b.x1
  let rule := rules.findIdx? fun r => ruleMatches r b.area (b.x1 + 1 - b.x0) (b.y1 + 1 - b.y0) persistence band
  { x0 := b.x0, x1 := b.x1, y0 := b.y0, y1 := b.y1, area := b.area, persistence := persistence, bandHit := band
    rule := rule
    action := match rule with
      | some i => (rules.getD i ruleOn).action
      | none => p.defaultAction
    outcome := none }

/-- The defect list of a picture (R72 to R78). -/
def defectList (rules : List ClassifierRule) (p : Profile) (previous : List DefectRecord)
    (picture : List (List Pixel)) : DefectList :=
  let all := completedRecords p.irThreshold picture
  { records := (all.take Config.keptRecords).map (classify rules p previous)
    overflow := ((all.drop Config.keptRecords).map RecordBox.area).sum }

/-- Total defect area (R80). -/
def totalArea (d : DefectList) : Nat := (d.records.map DefectRecord.area).sum + d.overflow

/-- The kept records that frame `n`'s persistence compares with: those of frame n - 1 where it is held, none for a
SPLICED frame (R74). -/
def persistenceRecords (l : Lane) (x : Slot) (s : State) : List DefectRecord :=
  if x.spliced || x.frame = 0 then []
  else match frameSlot l (x.frame - 1) s with
    | some y => (y.defects.map DefectList.records).getD []
    | none => []

/-! ### The engine (R66, R67) -/

/-- The lane's eligible frame, or none (R66). Beside a gap, the frame after it does not wait for a frame before it that is still
EXTRACTING: the model's choice (log entry 18). -/
def eligibleFrame (l : Lane) (s : State) : Option Nat :=
  match lowestAt l .detecting s with
  | none => none
  | some n => if n ≠ 0 && frameAt l (n - 1) [.extracting, .detecting] s then none else some n

/-- The lane of the candidate that stands earlier in an order of waiting frames (R67, R85). -/
def earlierLane (order : List FrameRef) (candA candB : Option Nat) : Lane :=
  match order.find? fun r => (r.lane = .a && candA = some r.frame) || (r.lane = .b && candB = some r.frame) with
  | some r => r.lane
  | none => .a

/-- The arbiter takes an eligible frame while the engine is free (R67). -/
def startDetection (s : State) : State :=
  if s.defect.under.isSome then s
  else
    let candA := eligibleFrame .a s
    let candB := eligibleFrame .b s
    match arbitrate s.defect.lastServed (earlierLane s.defect.waitOrder candA candB) candA candB with
    | none => s
    | some r => updDefect (fun d => { d with under := some r, lastServed := some r.lane, waitOrder := d.waitOrder.erase r }) s

/-- The tallies of a detection end (R81). -/
def tallyDetection (d : DefectList) (c : ConditionRecord) : ConditionRecord :=
  { c with
    defectRecords := heldAdd countTop c.defectRecords d.records.length
    overflowFrames := heldAdd frameTop c.overflowFrames (decide (0 < d.overflow)).toNat }

end Sys2Proof.Machine
end

