-- ==== Sys2Proof/Machine/Repairing.lean ====
section
/-! DEFINITION. The Repair Unit (chapter 5): readiness (R83, R84), the engine (R85), neighbours (R87, R88), temporal and
spatial repair (R89 to R93), repair outcome (R94). -/

namespace Sys2Proof.Machine

/-! ### Pictures -/

/-- The pixel at a column of a line. -/
def pixelAt (picture : List (List Pixel)) (y x : Nat) : Pixel :=
  (picture.getD y []).getD x { r := 0, g := 0, b := 0, ir := 0 }

/-- The R, G and B samples of the pixels in a record's box rewritten; IR and every other pixel are left (R89). -/
def rewriteBox (r : DefectRecord) (f : Nat → Nat → Pixel) (picture : List (List Pixel)) : List (List Pixel) :=
  picture.mapIdx fun y line => line.mapIdx fun x p =>
    if r.x0 ≤ x && x ≤ r.x1 && r.y0 ≤ y && y ≤ r.y1 then
      { r := (f y x).r, g := (f y x).g, b := (f y x).b, ir := p.ir }
    else p

/-! ### Temporal repair (R90) -/

/-- floor((p + q + 1) / 2) (R90). -/
def meanSample (p q : Sample) : Sample := BitVec.ofNat 16 ((p.toNat + q.toNat + 1) / 2)

/-- The rounded mean of two pixels (R90). -/
def meanPixel (p q : Pixel) : Pixel :=
  { r := meanSample p.r q.r, g := meanSample p.g q.g, b := meanSample p.b q.b, ir := p.ir }

/-- A neighbour as the repair reads it: picture and kept records (R87, R88). -/
structure Neighbour where
  picture : List (List Pixel)
  records : List DefectRecord
deriving DecidableEq, Repr

/-- A usable neighbour is clean for a record (R88). -/
def cleanFor (r : DefectRecord) (n : Neighbour) : Bool := n.records.all fun q => !recordsOverlap r q

/-! ### Spatial repair (R91, R92) -/

/-- Pixel t of w between anchors a and b (R91). -/
def spatialSample (w t : Nat) (a b : Sample) : Sample :=
  BitVec.ofNat 16 ((a.toNat * (w + 1 - t) + b.toNat * t + (w + 1) / 2) / (w + 1))

/-- Pixel t of w between anchor pixels (R91). -/
def spatialPixel (w t : Nat) (a b : Pixel) : Pixel :=
  { r := spatialSample w t a.r b.r, g := spatialSample w t a.g b.g, b := spatialSample w t a.b b.b, ir := a.ir }

/-- Spatial repair of a record is possible: at most the spatial max width, not touching both frame edges (R91, R92). -/
def spatialPossible (p : Profile) (r : DefectRecord) : Bool :=
  r.x1 + 1 - r.x0 ≤ p.spatialMax && !(r.x0 = 0 && r.x1 + 1 = p.width)

/-- The new pixel of a spatial repair at a column of a line (R91, R92). -/
def spatialAt (p : Profile) (r : DefectRecord) (picture : List (List Pixel)) (y x : Nat) : Pixel :=
  if r.x0 = 0 then pixelAt picture y (r.x1 + 1)
  else if r.x1 + 1 = p.width then pixelAt picture y (r.x0 - 1)
  else spatialPixel (r.x1 + 1 - r.x0) (x + 1 - r.x0) (pixelAt picture y (r.x0 - 1)) (pixelAt picture y (r.x1 + 1))

/-- A record repaired spatially, or left as it stands (R91 to R93). -/
def repairSpatial (p : Profile) (r : DefectRecord) (picture : List (List Pixel)) :
    List (List Pixel) × RecordOutcome :=
  if spatialPossible p r then (rewriteBox r (spatialAt p r picture) picture, .repairedSpatial)
  else (picture, .unrepairable)

/-- A record repaired from its clean neighbours, falling back to spatial repair (R90). -/
def repairTemporal (p : Profile) (before after : Option Neighbour) (r : DefectRecord) (picture : List (List Pixel)) :
    List (List Pixel) × RecordOutcome :=
  match before.filter (cleanFor r), after.filter (cleanFor r) with
  | some m, some n =>
    (rewriteBox r (fun y x => meanPixel (pixelAt m.picture y x) (pixelAt n.picture y x)) picture, .repairedTemporal)
  | some m, none => (rewriteBox r (pixelAt m.picture) picture, .repairedTemporal)
  | none, some n => (rewriteBox r (pixelAt n.picture) picture, .repairedTemporal)
  | none, none => repairSpatial p r picture

/-- One record dealt with under its action (R89, R93). -/
def repairRecord (p : Profile) (before after : Option Neighbour) (r : DefectRecord) (picture : List (List Pixel)) :
    List (List Pixel) × RecordOutcome :=
  match r.action with
  | .temporal => repairTemporal p before after r picture
  | .spatial => repairSpatial p r picture
  | .keep => (picture, .kept)
  | .unrepairable => (picture, .unrepairable)

/-- The records dealt with one after another, each reading the picture the ones before left (R89). -/
def repairRecords (p : Profile) (before after : Option Neighbour) :
    List DefectRecord → List (List Pixel) → List DefectRecord × List (List Pixel)
  | [], picture => ([], picture)
  | r :: rest, picture =>
    let one := repairRecord p before after r picture
    let others := repairRecords p before after rest one.1
    ({ r with outcome := some one.2 } :: others.1, others.2)

/-- The frame's repair outcome (R94). -/
def repairOutcome (d : DefectList) : RepairOutcome :=
  if d.records.isEmpty && d.overflow = 0 then .clean
  else if d.records.any (fun r => r.outcome = some .unrepairable) || 0 < d.overflow then .partially
  else .repaired

/-! ### Neighbours (R87) -/

/-- A slot as a neighbour. -/
def asNeighbour (x : Slot) : Neighbour :=
  { picture := x.picture, records := (x.defects.map DefectList.records).getD [] }

/-- Frame n - 1 as a usable neighbour of the frame in a slot (R87). -/
def neighbourBefore (l : Lane) (x : Slot) (s : State) : Option Neighbour :=
  if x.spliced || x.frame = 0 then none else (frameSlot l (x.frame - 1) s).map asNeighbour

/-- Frame n + 1 as a usable neighbour of the frame in a slot (R87). -/
def neighbourAfter (l : Lane) (x : Slot) (s : State) : Option Neighbour :=
  ((frameSlot l (x.frame + 1) s).filter fun y => !y.spliced).map asNeighbour

/-- The slot after its repair has ended (R89, R95). -/
def repairedSlot (p : Profile) (before after : Option Neighbour) (x : Slot) : Slot :=
  let d := x.defects.getD { records := [], overflow := 0 }
  let done := repairRecords p before after d.records x.picture
  let e : DefectList := { d with records := done.1 }
  { x with picture := done.2, defects := some e, outcome := some (repairOutcome e), stage := .gradingWait }

/-! ### Readiness and the engine (R83 to R85) -/

/-- The stages before GRADING_WAIT (R83). -/
def beforeGradingWait : List Stage := [.extracting, .detecting, .awaitNeighbour, .repairing]

/-- AWAIT_NEIGHBOUR and the later stages: the frame is detected (R83). -/
def detectedStages : List Stage :=
  [.awaitNeighbour, .repairing, .gradingWait, .grading, .shelfWait, .offered, .shelvedHeld]

/-- The lane's ready frame, or none (R83). -/
def readyFrame (l : Lane) (s : State) : Option Nat :=
  match lowestAt l .awaitNeighbour s with
  | none => none
  | some n =>
    if (laneSlots l s).any (fun x => x.frame < n && x.at beforeGradingWait) then none
    else if frameAt l (n + 1) detectedStages s || successorNeverComes l n s then some n
    else none

/-- A lane's ready frame is entered at the end of the ready order (R84). -/
def enterReady (l : Lane) (s : State) : State :=
  match readyFrame l s with
  | none => s
  | some n =>
    if s.repair.readyOrder.contains { lane := l, frame := n } then s
    else updRepair (fun r => { r with readyOrder := r.readyOrder ++ [{ lane := l, frame := n }] }) s

/-- The frame of a lane that stands in the ready order (R99). -/
def inReadyOrder (l : Lane) (s : State) : Option Nat :=
  (s.repair.readyOrder.find? fun r => r.lane = l).map FrameRef.frame

/-- The arbiter takes a ready frame while the engine is free (R85). -/
def startRepair (s : State) : State :=
  let s := enterReady .b (enterReady .a s)
  if s.repair.under.isSome then s
  else
    let candA := inReadyOrder .a s
    let candB := inReadyOrder .b s
    match arbitrate s.repair.lastServed (earlierLane s.repair.readyOrder candA candB) candA candB with
    | none => s
    | some r =>
      updFrame r.lane r.frame (fun x => { x with stage := .repairing })
        (updRepair (fun u => { u with under := some r, lastServed := some r.lane, readyOrder := u.readyOrder.erase r }) s)

/-- The tallies of a repair end (R95). -/
def tallyRepair (o : RepairOutcome) (d : DefectList) (c : ConditionRecord) : ConditionRecord :=
  let lost := d.records.countP fun r : DefectRecord => r.outcome = some .unrepairable
  let c := { c with unrepairable := heldAdd countTop c.unrepairable lost }
  match o with
  | .clean => { c with cleanFrames := heldAdd frameTop c.cleanFrames 1 }
  | .repaired => { c with repairedFrames := heldAdd frameTop c.repairedFrames 1 }
  | .partially => { c with partialFrames := heldAdd frameTop c.partialFrames 1 }

/-- The first-unrepairable register at a repair end with outcome PARTIAL (R97). -/
def fillFirstUnrepairable (l : Lane) (n : Nat) (s : State) : State :=
  match s.repair.firstUnrepairable.get l with
  | some _ => s
  | none =>
    let serial := (s.lane.get l).serial
    let t := updRepair (fun r => { r with
      firstUnrepairable := r.firstUnrepairable.set l (some { frame := n, serial := serial }) }) s
    if (s.mask.get l).firstUnrepairable then notify l (.firstUnrepairable serial n) t else t

end Sys2Proof.Machine
end

