-- ==== Sys2Proof/Machine/Grade.lean ====
section
/-! DEFINITION. The Grading Unit (chapter 6): banks and liveness (R101, R103), curve arithmetic (R104), cue lists, swap
and stamp (R105, R107, R109 to R111), candidates and engine (R112, R113, R115), the side (R117). -/

namespace Sys2Proof.Machine

/-! ### Banks (R101, R103, R104) -/

/-- Every entry of a curve has been written (R101). -/
def curveComplete (c : List CurveEntry) : Bool := c.all CurveEntry.written

/-- A bank is complete (R101). -/
def bankComplete (b : Bank) : Bool := curveComplete b.r && curveComplete b.g && curveComplete b.b

/-- The bank of a number. -/
def bankAt (s : State) (n : Nat) : Bank := s.banks.getD n bankOn

/-- The entries of a cue list in use: positions below the entry count (R105). -/
def cuesInUse (c : CueList) : List CueEntry := c.entries.take c.count

/-- A cue entry names a bank (R103). -/
def cueNames (n : Nat) (e : CueEntry) : Bool := e.even = n || e.odd = n

/-- The lane's active list holds the bank live (R103). -/
def liveByLane (n : Nat) (l : Lane) (s : State) : Bool :=
  (s.lane.get l).state ≠ .idle && (cuesInUse (s.cues.get l).active).any (cueNames n)

/-- A grade bank is live (R103). -/
def bankLive (n : Nat) (s : State) : Bool :=
  liveByLane n .a s || liveByLane n .b s
    || s.grading.stamps.any fun e => e.banks.any fun b => b.1 = n || b.2 = n

/-- Entry i of a curve. -/
def curveValue (c : List CurveEntry) (i : Nat) : Nat := (c.getD i { value := 0, written := false }).value.toNat

/-- A sample passed through a curve (R104). -/
def curveSample (c : List CurveEntry) (x : Sample) : Sample :=
  let i := x.toNat / 256
  let f := x.toNat % 256
  BitVec.ofNat 16 ((curveValue c i * (256 - f) + curveValue c (i + 1) * f + 128) / 256)

/-- A pixel passed through a bank; IR is left (R104). -/
def gradePixel (b : Bank) (p : Pixel) : Pixel :=
  { r := curveSample b.r p.r, g := curveSample b.g p.g, b := curveSample b.b p.b, ir := p.ir }

/-- A picture graded with a curve set; NEUTRAL leaves it (R104). -/
def gradePicture (s : State) (c : CurveSet) (picture : List (List Pixel)) : List (List Pixel) :=
  match c with
  | .neutral => picture
  | .bank n => picture.map fun line => line.map (gradePixel (bankAt s n))

/-! ### Cue lists (R107, R109 to R111) -/

/-- Why a shadow list fails validation (R107). -/
inductive CueFault where
  | order
  | incompleteBank
deriving DecidableEq, Repr

/-- Validation of cue entries from position `i` on, `before` being the start frame before (R107): the lowest failing
position and its cause. -/
def validateCues (s : State) : List CueEntry → Nat → Option Nat → Option (Nat × CueFault)
  | [], _, _ => none
  | e :: rest, i, before =>
    if before.any (fun b => e.start ≤ b) then some (i, .order)
    else if !(bankComplete (bankAt s e.even) && bankComplete (bankAt s e.odd)) then some (i, .incompleteBank)
    else validateCues s rest (i + 1) (some e.start)

/-- Active and shadow exchanged, the arm cleared (R109). -/
def swappedCues (c : CueState) : CueState := { active := c.shadow, shadow := c.active, armed := false }

/-- A swap with its CUES_SWAPPED notice (R109). -/
def swapCues (l : Lane) (frame : Option Nat) (s : State) : State :=
  let t := updCues l swappedCues s
  if (s.mask.get l).cuesSwapped then notify l (.cuesSwapped (t.cues.get l).active.count frame) t else t

/-- An armed commit is swapped (R109). -/
def swapIfArmed (l : Lane) (frame : Option Nat) (s : State) : State :=
  if (s.cues.get l).armed then swapCues l frame s else s

/-- The stamp of frame `n`: the entry in use with the greatest start frame not above n, or NEUTRAL (R110). -/
def stampFor (n : Nat) (entries : List CueEntry) : Stamp :=
  entries.foldl (fun best e =>
    if e.start ≤ n then
      match best with
      | .neutral => .cue e
      | .cue b => if b.start < e.start then .cue e else best
    else best) .neutral

/-- The banks a stamp names (R111). -/
def stampBanks : Stamp → Option (Nat × Nat)
  | .neutral => none
  | .cue e => some (e.even, e.odd)

/-- A stamp is entered at the end of the stamp list (R111). -/
def enterStamp (l : Lane) (n : Nat) (st : Stamp) (s : State) : State :=
  updGrading (fun g => { g with stamps := g.stamps ++
    [{ lane := l, serial := (s.lane.get l).serial, frame := n, banks := stampBanks st }] }) s

/-- The lane's entries leave the stamp list (R111). -/
def dropStamps (l : Lane) (g : GradingUnit) : GradingUnit := { g with stamps := g.stamps.filter fun e => e.lane ≠ l }

/-! ### The engine (R112, R113, R115) -/

/-- The lane's candidate for grading, or none (R112): its lowest frame at GRADING_WAIT, released to grading (R96). -/
def gradingCandidate (l : Lane) (s : State) : Option Nat :=
  match lowestAt l .gradingWait s with
  | none => none
  | some n =>
    if successorSettled l n s && !((laneSlots l s).any fun x => x.frame < n && x.stage = .grading) then some n else none

/-- The bank a cue entry's mode and the side select (R115). -/
def selectedSide (e : CueEntry) (side : Side) : Side :=
  match e.mode with
  | .evenOnly => .even
  | .oddOnly => .odd
  | .sensed => side

/-- What the start of a grading resolves (R115). -/
def resolveCurve (st : Stamp) (side : Side) (bypass review : Bool) : Graded :=
  match st with
  | .neutral => { curve := .neutral, side := side, bypassed := false, review := review }
  | .cue e =>
    let d := selectedSide e side
    { curve := if bypass then .neutral else .bank (if d = .even then e.even else e.odd), side := d
      bypassed := bypass, review := review }

/-- The lane whose candidate's stamp stands earlier in the stamp list (R113). -/
def earlierStamp (stamps : List StampEntry) (candA candB : Option Nat) : Lane :=
  earlierLane (stamps.map fun e => { lane := e.lane, frame := e.frame }) candA candB

/-- The grading of a frame starts (R113, R115). -/
def beginGrading (r : FrameRef) (s : State) : State :=
  match frameSlot r.lane r.frame s with
  | none => s
  | some x =>
    let f := responsesInForce r.lane s
    let g := resolveCurve x.stamp (s.grading.side.get r.lane) f.gradeBypass f.markReview
    updFrame r.lane r.frame (fun y => { y with stage := .grading })
      (updGrading (fun u => { u with under := some { ref := r, resolved := g }, lastServed := some r.lane }) s)

/-- The arbiter takes a candidate while the engine is free (R113). -/
def startGrading (s : State) : State :=
  if s.grading.under.isSome then s
  else
    let candA := gradingCandidate .a s
    let candB := gradingCandidate .b s
    match arbitrate s.grading.lastServed (earlierStamp s.grading.stamps candA candB) candA candB with
    | none => s
    | some r => beginGrading r s

/-! ### The side (R117) -/

/-- The base density updates the side (R117). -/
def sideSampled (first n interval : Nat) : Bool := (n - first) % interval = 0

/-- The side after a sampled density (R117). -/
def sideAfter (side : Side) (threshold hysteresis d : Nat) : Side :=
  match side with
  | .even => if threshold + hysteresis < d then .odd else .even
  | .odd => if d < threshold - hysteresis then .even else .odd

/-- The lane's side after the grading end of the frame in a slot (R117). -/
def sideFor (first : Nat) (side : Side) (x : Slot) : Side :=
  match x.stamp, x.density with
  | .cue e, .sampled d =>
    if e.mode = .sensed && sideSampled first x.frame e.interval then sideAfter side e.threshold e.hysteresis d else side
  | _, _ => side

/-- The slot at its grading end, its stage report still to come (R118 step 1). -/
def gradedSlot (s : State) (g : Graded) (x : Slot) : Slot :=
  { x with graded := some g, picture := gradePicture s g.curve x.picture }

end Sys2Proof.Machine
end

