-- ==== Sys2Proof/Machine/Settle.lean ====
section
/-! DEFINITION. What follows inside one step from the event it carries (spec/95): releases, the three engines' starts, the
shelving order, the STALL report of a stopped list, and drain completion (R14, R15). Each part acts only where its own
rule's condition holds. -/

namespace Sys2Proof.Machine

/-- The lane's pass state becomes IDLE; the Alarm Controller sees it at once (R15). -/
def becomeIdle (l : Lane) (s : State) : State :=
  recomputePace l (updLane l (fun r => { r with state := .idle }) s)

/-- The lane enters IDLE and its pass is finalised; an armed commit is swapped (R14, R15, R165). -/
def enterIdle (l : Lane) (s : State) : State := finalise l false (swapIfArmed l none (becomeIdle l s))

/-- The drain of a DRAINING lane is complete (R14). -/
def drainComplete (l : Lane) (s : State) : Bool :=
  (s.lane.get l).state = .draining && (laneSlots l s).isEmpty && (s.reg.get l).pendingFrame.isNone
    && !gapWaits (s.shelf.get l)

/-- The drain is tested for completion (R14). -/
def tryDrain (l : Lane) (s : State) : State := if drainComplete l s then enterIdle l s else s

/-- The lane enters DRAINING; an open frame is dropped without a number (R11, R12, R13). -/
def enterDraining (l : Lane) (s : State) : State :=
  updReg l (fun u => { u with openFrame := none })
    (updLane l (fun r => { r with state := .draining }) s)

/-- What follows from an event inside its step, block by block, lane A before lane B (log entries 9 and 35). The shelving order and
its STALL report, which follow a stage report, come before the next grading starts (R118 steps 6 and 7). -/
def settle (s : State) : State :=
  let s := releaseSlots s
  let s := startDetection s
  let s := startRepair s
  let s := handOn .b (handOn .a s)
  let s := reportWaiting .b (reportWaiting .a s)
  let s := startGrading s
  tryDrain .b (tryDrain .a s)

end Sys2Proof.Machine
end

