-- ==== Sys2Proof/Machine/Shelving.lean ====
section
/-! DEFINITION. The Shelving Controller's events: closing of entries and the next entry (R151, R152), stopping (R143),
acknowledges (R148, R149), failures (R150), withdrawal at an archive link reset, abort and lane reset (R155, R156). -/

namespace Sys2Proof.Machine

/-- The state becomes STOPPED for a reason; trigger queued clears (R142, R152). -/
def stopFor (reason : StopReason) (u : ShelfUnit) : ShelfUnit :=
  { u with state := .stopped, reason := reason, trigger := false }

/-- The entry at an index is taken: OPEN if it is READY, else STOPPED with ENTRY_NOT_READY (R152). -/
def takeEntry (i : Nat) (u : ShelfUnit) : ShelfUnit :=
  let u := { u with current := i }
  if (entryAt u i).status = .ready then updEntry i (fun e => { e with status := .opened }) u
  else stopFor .entryNotReady u

/-- The next entry after entry `e` has closed (R152). -/
def nextEntry (e : Nat) (u : ShelfUnit) : ShelfUnit :=
  if u.stopIndex = some e then
    { stopFor .stopIndex u with current := if e = 31 then 0 else e + 1 }
  else if (entryAt u e).eol || e = 31 then
    if u.autoRestart || u.trigger then takeEntry 0 { u with trigger := false }
    else { stopFor .endOfList u with current := e }
  else takeEntry (e + 1) u

/-- RUNNING, PAUSING or PAUSED: shelving runs (R142, R151). -/
def shelvingRuns (u : ShelfUnit) : Bool := u.state = .running || u.state = .pausing || u.state = .paused

/-- A SHELF_ENTRY_CLOSED notice is sent for the entry (R151). -/
def closeNotified (e : ShelfEntry) : Bool := e.status = .failed || (e.status = .full && e.notify)

/-- The SHELF_ENTRY_CLOSED notice of an entry (R151). -/
def closedNotice (i : Nat) (e : ShelfEntry) : Notice :=
  .entryClosed i e.status e.written e.remaining (if e.status = .failed then e.firstFailed else none)

/-- An entry whose status has become FULL, or that is FAILED without an unresolved offer, closes (R151). -/
def closeEntry (l : Lane) (i : Nat) (s : State) : State :=
  let e := entryAt (s.shelf.get l) i
  let t := if closeNotified e then notify l (closedNotice i e) s else s
  updShelf l (fun u => if shelvingRuns u then nextEntry i u else u) t

/-- The lane enters STOPPED by SHELF_STOP: reason COMMAND, current index 0, trigger queued clear, an OPEN entry READY (R143). At
an abort too, where R139 and R156 keep index and trigger: the model's choice (log entry 21). -/
def stoppedByCommand (u : ShelfUnit) : ShelfUnit :=
  let u := updEntry u.current (fun e => if e.status = .opened then { e with status := .ready } else e) u
  { stopFor .command u with current := 0 }

/-- A STOPPING lane without offers enters STOPPED (R143). -/
def finishStopping (u : ShelfUnit) : ShelfUnit :=
  if u.state = .stopping && (laneOffers u).isEmpty then stoppedByCommand u else u

/-- A FAILED entry of an offer closes when the lane has no unresolved offer (R151). -/
def closeIfFailed (l : Lane) (i : Nat) (s : State) : State :=
  if (entryAt (s.shelf.get l) i).status = .failed && (laneOffers (s.shelf.get l)).isEmpty then closeEntry l i s else s

/-- An OPEN entry with remaining count 0 becomes FULL and closes (R149, R151). -/
def closeIfFull (l : Lane) (i : Nat) (s : State) : State :=
  let e := entryAt (s.shelf.get l) i
  if e.status = .opened && e.remaining = 0 then
    closeEntry l i (updShelf l (updEntry i fun x => { x with status := .full }) s)
  else s

/-- The lane's timed-out frames change; a change in their number is reported (R153). -/
def updTimedOut (l : Lane) (f : List Nat → List Nat) (s : State) : State :=
  let t := updShelf l (fun u => { u with timedOut := f u.timedOut }) s
  if (t.shelf.get l).timedOut.length = (s.shelf.get l).timedOut.length then t else stallReport l t

/-- An acknowledge OK resolves its offer (R149). Its STALL report comes before the entry's close (R151, R152) and before the release
of the slot (R58), which is part of `settle`: the model's choice (log entry 30). -/
def acknowledgeOk (l : Lane) (o : Offer) (s : State) : State :=
  let s := updShelf l (fun u => updEntry o.entry (fun e => { e with written := e.written + 1, remaining := e.remaining - 1 })
    { u with outstanding := u.outstanding.erase o }) s
  let s := updFrame l o.frame (fun x => { x with ack := .acknowledged, stage := .shelvedHeld }) s
  let s := tally l (fun c => { c with shelved := heldAdd frameTop c.shelved 1 }) s
  let s := updTimedOut l (fun t => t.erase o.frame) s
  let s := closeIfFailed l o.entry (closeIfFull l o.entry s)
  updShelf l finishStopping s

/-- The slot of a frame whose offer is withdrawn (R150, R155). -/
def withdrawnSlot (x : Slot) : Slot := { x with stage := .shelfWait, ack := .notOffered, reoffer := true }

/-- Frames join the re-offer queue in ascending order (R150, R155). -/
def joinReoffer (frames : List Nat) (q : List Nat) : List Nat := frames.foldl (fun r n => insertAscending n r) q

/-- A cell being sent whose item has been withdrawn: it belongs to no item any more, and is sent whole all the same: the
model's choice (log entry 16). -/
def orphaned (l : Lane) (x : Sending) : Sending :=
  if x.source = CellSource.frame l then { x with source := CellSource.withdrawn l } else x

/-- The lane's frame cell on the archive link belongs to an item no more (log entry 16). -/
def withdrawSending (l : Lane) (s : State) : State :=
  updArchive (fun p => { p with sending := p.sending.map (orphaned l) }) s

/-- The offers for which `f` holds are withdrawn: out of the window, a frame in transmission not sent on (R150, R155). -/
def withdrawOffers (l : Lane) (f : Offer → Bool) (s : State) : State :=
  let u := s.shelf.get l
  let cut := (transmitting u).any f
  let frames := ((laneOffers u).filter f).map Offer.frame
  let s := updShelf l (fun v => { v with
    outstanding := v.outstanding.filter fun o => !f o
    sending := if cut then none else v.sending
    reoffer := joinReoffer frames v.reoffer }) s
  let s := if cut then withdrawSending l s else s
  frames.foldl (fun t n => updFrame l n withdrawnSlot t) s

/-- A failure of an offer, by FAIL or by timeout (R150). -/
def failOffer (l : Lane) (o : Offer) (timeout : Bool) (s : State) : State :=
  let s := updShelf l (updEntry o.entry fun e =>
    if e.status = .opened then { e with status := .failed, firstFailed := some o.frame } else e) s
  let s := withdrawOffers l (fun x => x.number = o.number || o.frame < x.frame) s
  let s := tally l (fun c => { c with shelfFailures := heldAdd countTop c.shelfFailures 1 }) s
  let s := if timeout then updTimedOut l (fun t => if t.contains o.frame then t else insertAscending o.frame t) s else s
  let s := updShelf l (fun u => if u.state = .pausing && (transmitting u).isNone then { u with state := .paused } else u) s
  let s := closeIfFailed l o.entry s
  updShelf l finishStopping s

/-- An acknowledge that matches no outstanding offer (R148). -/
def staleAck (l : Lane) (s : State) : State :=
  tally l (fun c => { c with staleAcks := heldAdd countTop c.staleAcks 1 })
    (updShelf l (fun u => { u with stale := heldAdd shortTop u.stale 1 }) s)

/-- The outstanding offer of a number (R148). -/
def offerOf (l : Lane) (n : OfferNumber) (s : State) : Option Offer :=
  (s.shelf.get l).outstanding.find? fun o => o.number = n

/-- Places of withdrawn offers become free places of the OPEN entry (R155, R156). -/
def freeWithdrawn (u : ShelfUnit) : ShelfUnit :=
  let places := (laneOffers u).map Offer.place
  updEntry u.current (fun e =>
    if e.status = .opened then { e with freePlaces := joinReoffer places e.freePlaces } else e) u

/-- A FRAME_GAP cell handed on and not sent returns to the unsent gaps, and the cursor to it (R155, log entry 11). -/
def returnGap (u : ShelfUnit) : ShelfUnit :=
  match gapHandedOn u with
  | none => u
  | some n => { u with gaps := insertAscending n u.gaps, cursor := some n, sending := none }

/-- The lane's current entry is FAILED with offers awaiting their acknowledges (R155, R156). -/
def failedAwaiting (u : ShelfUnit) : Bool := (entryAt u u.current).status = .failed && !(laneOffers u).isEmpty

/-- An archive link reset at the Shelving Controller, for one lane (R155). -/
def shelfLinkReset (l : Lane) (s : State) : State :=
  let due := failedAwaiting (s.shelf.get l)
  let i := (s.shelf.get l).current
  let s := updShelf l freeWithdrawn s
  let s := withdrawOffers l (fun _ => true) s
  let s := updShelf l returnGap s
  let s := if due then closeEntry l i s else s
  let s := changePause l (fun u => { u with pauseLink := true }) s
  updShelf l (fun u => finishStopping (if u.state = .pausing then { u with state := .paused } else u)) s

/-- ABORT_REEL at the Shelving Controller (R156; a STOPPING lane: log entry 21). -/
def shelfAbort (l : Lane) (s : State) : State :=
  let due := failedAwaiting (s.shelf.get l)
  let i := (s.shelf.get l).current
  let s := withdrawSending l s
  let s := updShelf l (fun u =>
    { freeWithdrawn u with sending := none, outstanding := [], reoffer := [], gaps := [], cursor := none, timedOut := [] }) s
  let s := updShelf l (fun u => if u.state = .pausing then { u with state := .paused } else u) s
  let s := if due then closeEntry l i s else s
  let s := updShelf l finishStopping s
  updShelf l (fun u => { u with waitingReported := false }) s

/-- An entry at RESET_LANE (R19, R137). -/
def resetEntry (e : ShelfEntry) : ShelfEntry :=
  if e.status = .empty then e
  else { e with status := .ready, written := 0, remaining := e.capacity, firstFailed := none, nextPlace := 0, freePlaces := [] }

/-- The shelving state at RESET_LANE (R19, R139, R156). -/
def resetShelf (u : ShelfUnit) : ShelfUnit :=
  { u with
    entries := u.entries.map resetEntry, state := .stopped, reason := .none, current := 0, trigger := false
    pauseManual := false, sending := none, outstanding := [], reoffer := [], gaps := [], cursor := none
    timedOut := [], stale := 0, waitingReported := false }

/-- RESET_LANE at the Shelving Controller (R19). -/
def shelfReset (l : Lane) (s : State) : State := updShelf l resetShelf (withdrawSending l s)

end Sys2Proof.Machine
end

