-- ==== Sys2Proof/Machine/Archive.lean ====
section
/-! DEFINITION. The Archive Port: the outbound arbiter (R154) with ARCHIVE_CELL_SENT, STORE_ACK (R148),
ACK_TIMEOUT_EXPIRY (R150), COMMAND_OVERRUN (R172), UNKNOWN_COMMAND (R171), and the Intake Ports' PACE_CELL_SENT (R133). -/

namespace Sys2Proof.Machine

/-! ### The outbound arbiter (R154) -/

/-- The next frame cell of a lane's item in transmission (R146, R147). -/
def frameCell (l : Lane) (s : State) : Option Cell :=
  match (s.shelf.get l).sending with
  | none => none
  | some (.gap n) => some (frameGap l n s)
  | some (.frame o k) =>
    (frameSlot l o.frame s).map fun x => if k = 0 then frameHead l o x s else frameData l o (k - 1) x

/-- The lane whose frame cell goes next (R154). -/
def frameLane (s : State) : Lane :=
  match frameCell .a s, frameCell .b s with
  | some _, some _ => if s.archive.lastFrameLane = some .a then .b else .a
  | none, some _ => .b
  | _, none => .a

/-- The cell the arbiter gives the cell slot to (R154). -/
def nextSending (s : State) : Option Sending :=
  match s.archive.replies, s.archive.notices, s.condQueue with
  | r :: _, _, _ => some { source := .reply, cell := replyCell r }
  | [], n :: _, _ => some { source := .notice, cell := noticeCell n }
  | [], [], c :: _ => some { source := .condition, cell := conditionCell c }
  | [], [], [] => (frameCell (frameLane s) s).map fun c => { source := .frame (frameLane s), cell := c }

/-- The head of the condition queue marked as begun (R167). -/
def markBegun : List ConditionCell → List ConditionCell
  | [] => []
  | c :: rest => { c with begun := true } :: rest

/-- The free value of a FRAME_HEAD without a base density has been used (log entry 4). -/
def spendFree (c : Cell) (s : State) : State := if c.kind = kindFrameHead then advanceFree s else s

/-- The arbiter gives the cell slot, and the sending begins (R154, R167). -/
def beginSending (s : State) : State :=
  match s.archive.sending with
  | some _ => s
  | none =>
    match nextSending s with
    | none => s
    | some x =>
      let t := spendFree x.cell (updArchive (fun p => { p with sending := some x }) s)
      if x.source = CellSource.condition then updCondQueue markBegun t else t

/-- The offer becomes outstanding; its ack timer starts with the lane's code (R146). -/
def becomeOutstanding (o : Offer) (u : ShelfUnit) : ShelfUnit :=
  { u with
    sending := none
    outstanding := u.outstanding ++ [{ o with timer := timeoutMs u.ackCode }]
    state := if u.state = .pausing then .paused else u.state }

/-- The lane's item after one more of its cells has been sent (R146, R147). -/
def advanceItem (p : Profile) (u : ShelfUnit) : ShelfUnit :=
  match u.sending with
  | none => u
  | some (.gap _) => { u with sending := none }
  | some (.frame o k) =>
    if k = frameDataCells p then becomeOutstanding o u else { u with sending := some (.frame o (k + 1)) }

/-- What the sending of a cell whole brings, by its source (R154, R172, R176, R167, R146, R147). -/
def afterSent (x : CellSource) (s : State) : State :=
  match x with
  | .reply => updArchive (fun p => { p with replies := p.replies.tail }) s
  | .notice => updArchive (fun p => { p with notices := p.notices.tail }) s
  | .condition => updCondQueue List.tail s
  | .withdrawn l => updArchive (fun p => { p with lastFrameLane := some l }) s
  | .frame l =>
    settle (updShelf l (advanceItem (s.profile.get l)) (updArchive (fun p => { p with lastFrameLane := some l }) s))

/-- The cell being sent has been sent whole (R154). -/
def finishSending (s : State) : State :=
  match s.archive.sending with
  | none => s
  | some x => afterSent x.source (updArchive (fun p => { p with sending := none, lastCell := some (cellWire x.cell) }) s)

/-- The sending of one archive cell, to its beginning or whole; nothing is sent while the link is DOWN (R154, R169). -/
def sendArchive (e : SendExtent) (s : State) : State :=
  if s.archive.up then
    match e with
    | .begun => beginSending s
    | .whole => finishSending (beginSending s)
  else s

/-- ARCHIVE_CELL_SENT (R154). -/
def execArchiveCellSent (e : SendExtent) (s : State) : Host.Outcome State Fault Refusal := .next (sendArchive e s)

/-! ### PACE cells (R133) -/

/-- The waiting PACE cell is sent and the place is empty; nothing is sent while the link is DOWN (R133, R169). -/
def sendPace (l : Lane) (s : State) : State :=
  updIntake l (fun p =>
    match p.up, p.pacePlace with
    | true, some c => { p with pacePlace := none, lastPace := some (cellWire (paceCell l c)) }
    | _, _ => p) s

/-- PACE_CELL_SENT (R133). -/
def execPaceCellSent (l : Lane) (s : State) : Host.Outcome State Fault Refusal := .next (sendPace l s)

/-! ### Store-acknowledges (R148 to R150) -/

/-- The result of a STORE_ACK: true for OK, false for FAIL, none otherwise (R148, R181). -/
def ackResult (result : Byte) : Option Bool :=
  if result = 1#8 then some true else if result = 2#8 then some false else none

/-- A STORE_ACK with a lane and a result (R148). -/
def takeAck (l : Lane) (n : OfferNumber) (ok : Bool) (s : State) : State :=
  match offerOf l n s with
  | none => staleAck l s
  | some o => settle (if ok then acknowledgeOk l o s else failOffer l o false s)

/-- STORE_ACK (R148); a bad lane or result is dropped uncounted. -/
def execStoreAck (lane : Byte) (n : OfferNumber) (result : Byte) (s : State) : Host.Outcome State Fault Refusal :=
  .next (match s.archive.up, laneOfByte lane, ackResult result with
    | true, some l, some ok => takeAck l n ok s
    | _, _, _ => s)

/-- ACK_TIMEOUT_EXPIRY of an outstanding offer whose timer runs (R150); no other offer has one to expire (log entry 2). -/
def execAckTimeoutExpiry (l : Lane) (n : OfferNumber) (s : State) : Host.Outcome State Fault Refusal :=
  .next (match (offerOf l n s).filter fun o => o.timer.isSome with
    | none => s
    | some o => settle (failOffer l o true s))

/-! ### Commands that reach no block (R171, R172) -/

/-- COMMAND_OVERRUN: a COMMAND cell against the credit (R172); with credit granted, or the link DOWN, no such event
(log entry 2). The cell is dropped unread. -/
def execCommandOverrun (_code : Byte) (_c : CommandCell) (s : State) : Host.Outcome State Fault Refusal :=
  .next (if s.archive.up && !commandCredit s then overrun s else s)

/-- UNKNOWN_COMMAND: REFUSED with UNKNOWN_COMMAND (R171); a code of the command table is not this event (log entry 2). -/
def execUnknownCommand (code : Byte) (c : CommandCell) (s : State) : Host.Outcome State Fault Refusal :=
  .next (if codeDefined code then s else takeCommand code c (refuse .unknownCommand) s)

end Sys2Proof.Machine
end

