-- ==== Sys2Proof/Machine/Engines.lean ====
section
/-! DEFINITION. The ends of the three shared engines' work: DETECTION_END (R79), REPAIR_END (R95), GRADING_END (R118). -/

namespace Sys2Proof.Machine

/-! ### DETECTION_END (R79) -/

/-- The defect list a detection gives (R72 to R78). -/
def detected (l : Lane) (x : Slot) (s : State) : DefectList :=
  defectList (s.rules.get l) (s.profile.get l) (persistenceRecords l x s) x.picture

/-- The detection of the frame in slot `x` ends: steps 1 to 5 of R79. -/
def endDetection (l : Lane) (x : Slot) (s : State) : State :=
  let d := detected l x s
  let s := updFrame l x.frame (fun y => { y with defects := some d }) s
  let s := damageSample l x.frame ((s.profile.get l).damageThreshold < totalArea d) s
  let s := tally l (tallyDetection d) s
  let s := updDefect (fun u => { u with lastDetected := u.lastDetected.set l (some x.frame), under := none }) s
  updFrame l x.frame (fun y => { y with stage := .awaitNeighbour }) s

/-- The detection engine's frame ends; an idle engine has none to end (log entry 2). -/
def finishDetection (s : State) : State :=
  match s.defect.under with
  | none => s
  | some r =>
    match frameSlot r.lane r.frame s with
    | none => s
    | some x => settle (endDetection r.lane x s)

/-- DETECTION_END (R79). -/
def execDetectionEnd (s : State) : Host.Outcome State Fault Refusal := .next (finishDetection s)

/-! ### REPAIR_END (R95) -/

/-- The register step of a repair end (R95 step 3, R97). -/
def registerRepair (l : Lane) (n : Nat) (o : RepairOutcome) (s : State) : State :=
  match o with
  | .clean => s
  | .repaired => s
  | .partially => fillFirstUnrepairable l n s

/-- The slot a repair leaves (R89 to R94). -/
def repaired (l : Lane) (x : Slot) (s : State) : Slot :=
  repairedSlot (s.profile.get l) (neighbourBefore l x s) (neighbourAfter l x s) x

/-- The repair of the frame in slot `x` ends: steps 1 to 5 of R95. -/
def endRepair (l : Lane) (x : Slot) (s : State) : State :=
  let y := repaired l x s
  let d := y.defects.getD { records := [], overflow := 0 }
  let o := repairOutcome d
  let s := updFrame l x.frame (fun _ => y) s
  let s := tally l (tallyRepair o d) s
  let s := registerRepair l x.frame o s
  updRepair (fun u => { u with cursor := u.cursor.set l (some x.frame), under := none }) s

/-- The repair engine's frame ends; an idle engine has none to end (log entry 2). -/
def finishRepair (s : State) : State :=
  match s.repair.under with
  | none => s
  | some r =>
    match frameSlot r.lane r.frame s with
    | none => s
    | some x => settle (endRepair r.lane x s)

/-- REPAIR_END (R95). -/
def execRepairEnd (s : State) : Host.Outcome State Fault Refusal := .next (finishRepair s)

/-! ### GRADING_END (R118) -/

/-- The BASE_SHIFT sample of a grading end, SHIFT counted (R117, R118 step 3). -/
def reportShift (l : Lane) (n : Nat) (shift : Bool) (s : State) : State :=
  let s := baseShiftSample l n shift s
  if shift then tally l (fun c => { c with baseShifts := heldAdd countTop c.baseShifts 1 }) s else s

/-- The stamp entry of a slot's frame (R111). -/
def stampOf (x : Slot) (e : StampEntry) : Bool := e.lane = x.lane && e.serial = x.serial && e.frame = x.frame

/-- The grading of the frame in slot `x` ends, `g` being what its start resolved: steps 1 to 6 of R118. -/
def endGrading (l : Lane) (g : Graded) (x : Slot) (s : State) : State :=
  let side := s.grading.side.get l
  let next := sideFor (s.lane.get l).firstFrame side x
  let y := gradedSlot s g x
  let s := updFrame l x.frame (fun _ => y) s
  let s := updGrading (fun u => { u with side := u.side.set l next }) s
  let s := reportShift l x.frame (next != side) s
  let s := updGrading (fun u => { u with
    stamps := u.stamps.filter fun e => !stampOf x e
    lastGraded := u.lastGraded.set l (some x.frame)
    under := none }) s
  updFrame l x.frame (fun z => { z with stage := .shelfWait }) s

/-- The grading engine's frame ends; an idle engine has none to end (log entry 2). -/
def finishGrading (s : State) : State :=
  match s.grading.under with
  | none => s
  | some u =>
    match frameSlot u.ref.lane u.ref.frame s with
    | none => s
    | some x => settle (endGrading u.ref.lane u.resolved x s)

/-- GRADING_END (R118). -/
def execGradingEnd (s : State) : Host.Outcome State Fault Refusal := .next (finishGrading s)

end Sys2Proof.Machine
end

