-- ==== Sys2Proof/Machine/Registration.lean ====
section
/-! DEFINITION. The Registration Unit's edges (chapter 2): frame boundary (R38, R52, R55), spurious, accepted and missing
edges (R30 to R33), lock and relock (R34, R35, R10), and PERF_CELL. -/

namespace Sys2Proof.Machine

/-! ### Frame boundary (R38) -/

/-- The closed frame is stamped, after any swap the boundary makes (R109, R110). -/
def stampBoundary (l : Lane) (n : Nat) (s : State) : State :=
  let s := swapIfArmed l (some n) s
  enterStamp l n (stampFor n (cuesInUse (s.cues.get l).active)) s

/-- The closed frame asks for a slot: a frame still waiting is abandoned first (R55); the new one is granted a slot,
abandoned where its first needed line is lost, or waits (R52). The slot that an abandonment settles is freed after its STALL
report (log entry 33). -/
def requestSlot (l : Lane) (p : PendingFrame) (s : State) : State :=
  let s := abandonPending l s
  let s := updReg l (fun u => { u with pendingFrame := some p }) s
  let s := updRequests (fun r => r ++ [l]) s
  let s := releaseSlots s
  abandonLost l (tryGrant l s)

/-- The span's registration values at its closing edge (R38 steps 2 and 3). -/
def boundaryReg (p : Profile) (u : RegUnit) (reference closing : Edge) (synthesizedInSpan : Bool) : FrameReg :=
  registerFrame p u.unsmoothedNext u.prevRatio reference.position closing.position synthesizedInSpan

/-- The frame boundary that closes frame `n`, whose span has these edges from reference to closing (R38). The evaluation
point follows the sample (log entry 8). The splice list is purged (R36) after the slot request and before the last number's
boundary drops the new open frame (R11): the model's choice (log entry 31). -/
def closeFrame (l : Lane) (n : Nat) (reference closing : Edge) (synthesizedInSpan : Bool) (s : State) : State :=
  let r := boundaryReg (s.profile.get l) (s.reg.get l) reference closing synthesizedInSpan
  let s := updLane l (fun x => { x with nextFrame := nextNumber n }) s
  let s := updReg l (fun u => { u with prevRatio := some r.ratio, unsmoothedNext := false }) s
  let s := evaluate l (registrationSample l n r.interpolated s)
  let s := updReg l (fun u => { u with lastClosing := some closing.position, openFrame := some [closing] }) s
  let s := stampBoundary l n s
  let stamp := stampFor n (cuesInUse (s.cues.get l).active)
  let s := requestSlot l { frame := n, serial := (s.lane.get l).serial, reg := r, stamp := stamp } s
  let s := purgeSplices l s
  if n = Config.lastFrame then enterDraining l s else s

/-- The edges of a span, reference first, become a frame boundary (R38). -/
def frameBoundary (l : Lane) (edges : List Edge) (s : State) : State :=
  match edges.head?, edges.getLast?, (s.lane.get l).nextFrame with
  | some reference, some closing, some n =>
    settle (closeFrame l n reference closing (edges.any Edge.synthesized) s)
  | _, _, _ => s

/-- An edge taken into the lane's span, or counted as a lock edge, in RUNNING (R31, R34, R38). Outside RUNNING, an edge
that follows a boundary to DRAINING, it is not taken (R32). -/
def takeEdge (l : Lane) (s : State) (e : Edge) : State :=
  if (s.lane.get l).state ≠ .running then s
  else
    let s := if e.synthesized then tally l (fun c => { c with synthesized := heldAdd countTop c.synthesized 1 }) s else s
    match (s.reg.get l).openFrame with
    | some edges =>
      let t := updReg l (fun u => { u with openFrame := some (edges ++ [e]) }) s
      if edges.length = (s.profile.get l).k then frameBoundary l (edges ++ [e]) t else t
    | none =>
      match (s.reg.get l).lockEdges with
      | none => s
      | some i =>
        if i = (s.lane.get l).phase then updReg l (fun u => { u with openFrame := some [e], lockEdges := none }) s
        else updReg l (fun u => { u with lockEdges := some (i + 1) }) s

/-- Edges taken in position order (R32, R34, R35). -/
def takeEdges (l : Lane) (es : List Edge) (s : State) : State := es.foldl (takeEdge l) s

/-- A real edge (R32). -/
def realEdge (q : Position) : Edge := { position := q, synthesized := false }

/-! ### Lock and relock (R34, R35) -/

/-- Lock: the lane enters RUNNING and the three edges of the run are taken, index 0 first (R34). -/
def lockLane (l : Lane) (run : List Position) (s : State) : State :=
  takeEdges l (run.map realEdge)
    (updReg l (fun u => { u with seekRun := [], lockEdges := some 0, openFrame := none })
      (updLane l (fun r => { r with state := .running }) s))

/-- The skipped count of a relock whose first edge is `e0` (R35 step 1). -/
def relockSkipped (l : Lane) (e0 : Position) (s : State) : Nat :=
  match (s.reg.get l).lastClosing with
  | none => 0
  | some c =>
    skippedFrames (s.profile.get l).k (expectedPitch (s.profile.get l) (s.reg.get l).prevRatio) (e0 - c).toNat

/-- `k` gaps from frame number `n` on are placed in ascending order (R10). -/
def placeGaps (l : Lane) (n k : Nat) (s : State) : State := (List.range' n k).foldl (fun t m => placeGap l m t) s

/-- The gaps of a relock reach frame number 16,777,215 (R10). -/
def gapsReachEnd (n k : Nat) : Bool := Config.lastFrame + 1 ≤ n + k

/-- A relock that does not reach the last frame number: RUNNING, side EVEN, `e0` the reference edge of a new open frame,
the later edges of the run in its span (R10, R35 steps 3 and 4). R153's test for the gaps placed follows once the lane is
RUNNING, so that it is no evaluation point (R127), and so does the release of the slot before a gap (R60): the model's choice (log
entries 26 and 34). -/
def relockRunning (l : Lane) (n k : Nat) (run : List Position) (s : State) : State :=
  let s := placeGaps l n k s
  let s := updLane l (fun r => { r with nextFrame := some (n + k), state := .running }) s
  let s := updGrading (fun g => { g with side := g.side.set l .even }) s
  let s := updReg l (fun u => { u with unsmoothedNext := true, seekRun := [], lockEdges := none
                                       openFrame := (run.head?.map realEdge).map fun e => [e] }) s
  takeEdges l (run.tail.map realEdge) s

/-- A relock whose gaps reach the last frame number: gaps up to it, next frame number NONE, DRAINING (R10). The
seek run ends: the model's choice (log entry 28). -/
def relockDraining (l : Lane) (n : Nat) (s : State) : State :=
  let s := placeGaps l n (Config.lastFrame + 1 - n) s
  let s := updLane l (fun r => { r with nextFrame := none }) s
  enterDraining l (updReg l (fun u => { u with seekRun := [] }) s)

/-- Relock (R10, R35). -/
def relockLane (l : Lane) (run : List Position) (s : State) : State :=
  let k := relockSkipped l (run.headD 0) s
  let s := tally l (fun c => { c with discontinuities := heldAdd countTop c.discontinuities 1 }) s
  match (s.lane.get l).nextFrame with
  | none => s
  | some n => if gapsReachEnd n k then relockDraining l n s else relockRunning l n k run s

/-! ### Edges (R30 to R33) -/

/-- Loss of registration (R33). A count of lock edges that still runs ends too: the model's choice (log entry 17). -/
def loseRegistration (l : Lane) (q : Position) (s : State) : State :=
  let s := updLane l (fun r => { r with state := .lost }) s
  let s := updReg l (fun u => { u with openFrame := none, lockEdges := none, lastEdge := some q, seekRun := [q] }) s
  let s := tally l (fun c => { c with lostEpisodes := heldAdd countTop c.lostEpisodes 1 }) s
  registrationLost l s

/-- The synthesized edges of a gap, in position order (R32). -/
def bridgedEdges (last : Position) (p missing : Nat) : List Edge :=
  (List.range missing).map fun m => { position := synthesizedAt last p missing (m + 1), synthesized := true }

/-- The new edge becomes the last accepted edge. -/
def acceptAsLast (l : Lane) (q : Position) (s : State) : State := updReg l (fun u => { u with lastEdge := some q }) s

/-- A real edge is accepted and taken in RUNNING (R31, R32). A boundary of the same cell that has sent the lane to DRAINING
leaves it untaken: it does not become the last accepted edge. -/
def takeReal (l : Lane) (q : Position) (s : State) : State :=
  if (s.lane.get l).state = .running then takeEdge l (acceptAsLast l q s) (realEdge q) else s

/-- An accepted edge or a gap while the lane seeks lock or relock (R31, R34, R35); `pitchAccepted` tells the two apart. -/
def seekEdge (l : Lane) (q : Position) (pitchAccepted : Bool) (s : State) : State :=
  let run := if pitchAccepted then (s.reg.get l).seekRun ++ [q] else [q]
  let s := updReg l (fun u => { u with lastEdge := some q, seekRun := run }) s
  if run.length < 3 then s
  else if (s.lane.get l).state = .lost then relockLane l run s
  else lockLane l run s

/-- An edge spurious to the lane (R31). -/
def spuriousEdge (l : Lane) (s : State) : State :=
  tally l (fun c => { c with spurious := heldAdd countTop c.spurious 1 }) s

/-- An accepted edge (R31): taken in RUNNING, else it extends the seek run. -/
def acceptedEdge (l : Lane) (q : Position) (s : State) : State :=
  if (s.lane.get l).state = .running then takeReal l q s else seekEdge l q true s

/-- A gap of `missing` perforations (R31 to R33): in RUNNING bridged up to 3, a loss above; else it ends the seek run. -/
def missingEdges (l : Lane) (last q : Position) (missing : Nat) (s : State) : State :=
  if (s.lane.get l).state = .running then
    if missing ≤ 3 then takeReal l q (takeEdges l (bridgedEdges last (q - last).toNat missing) s)
    else loseRegistration l q s
  else seekEdge l q false s

/-- The class of a lane's new edge against its last accepted edge (R30, R31). -/
def edgeClassOf (l : Lane) (last q : Position) (s : State) : EdgeClass :=
  classifyEdge (q - last).toNat (expectedPitch (s.profile.get l) (s.reg.get l).prevRatio)

/-- What each class of edge does (R31 to R33). -/
def takeClassed (l : Lane) (last q : Position) (s : State) : EdgeClass → State
  | .spurious => spuriousEdge l s
  | .accepted => acceptedEdge l q s
  | .gap missing => missingEdges l last q missing s

/-- An edge that has a last accepted edge before it (R30, R31). -/
def compareEdge (l : Lane) (last q : Position) (s : State) : State :=
  takeClassed l last q s (edgeClassOf l last q s)

/-- A PERF cell's edge on a lane (R30): discarded in IDLE and DRAINING, the first edge of a run, or compared. -/
def perfEdge (l : Lane) (q : Position) (s : State) : State :=
  match (s.lane.get l).state with
  | .idle => s
  | .draining => s
  | _ =>
    match (s.reg.get l).lastEdge with
    | none => updReg l (fun u => { u with lastEdge := some q, seekRun := [q] }) s
    | some last => compareEdge l last q s

end Sys2Proof.Machine
end

