-- ==== Sys2Proof/Machine/Intake.lean ====
section
/-! DEFINITION. The Intake Ports' cells: line assembly (R23 to R26), edges (R30), tension and splices (R36), and the
silence timer (R27). -/

namespace Sys2Proof.Machine

/-! ### Silence timer (R27) -/

/-- The timer after a restart with a timeout code; with code 0 it is STOPPED (R27). -/
def restartedTimer (code : Nat) : SilenceTimer :=
  match timeoutMs code with
  | none => .stopped
  | some ms => .running ms

/-- A taken cell of any kind restarts the silence timer (R27, log entry 6). -/
def restartSilence (l : Lane) (s : State) : State :=
  updIntake l (fun p => { p with silence := restartedTimer (s.profile.get l).silenceCode }) s

/-- A LINE cell while resume owed is set reports lines resumed (R27). -/
def resumeLines (l : Lane) (s : State) : State :=
  if (s.intake.get l).resumeOwed then linesResumed l (updIntake l (fun p => { p with resumeOwed := false }) s) else s

/-! ### Lines (R23 to R26) -/

/-- A line of the given number, black and marked filled (R25). -/
def filledLine (width : Nat) (n : LineNumber) : StripLine :=
  { number := n, pixels := List.replicate width blackPixel, filled := true }

/-- A completed line: the columns not received are black (R24). -/
def paddedLine (width : Nat) (a : Assembly) : StripLine :=
  { number := a.number, pixels := a.pixels ++ List.replicate (width - a.pixels.length) blackPixel, filled := false }

/-- A line handed to the Registration Unit: discarded in IDLE (R8), else stored (R26), a pending frame whose first needed
line is lost abandoned (R54), and the extractions it completes ended (R42), in that order: the model's choice (log entry 29). What the
abandonment settles is released after both (log entry 33). -/
def handLine (l : Lane) (line : StripLine) (s : State) : State :=
  if (s.lane.get l).state = .idle then s
  else
    let s := if line.filled then tally l (fun c => { c with dropout := heldAdd countTop c.dropout 1 }) s else s
    let s := updReg l (fun u => { u with strip := stripStore line u.strip }) s
    settle (endExtractions l (abandonLost l s))

/-- How many missing lines are filled before line `c`, the last line being `last` (R25). -/
def missingLines (last : Option LineNumber) (c : LineNumber) : Nat :=
  match last with
  | none => 0
  | some p => min ((c - p).toNat - 1) Config.stripDepth

/-- The filled lines before line `c`, in ascending order (R25). -/
def fillLines (width : Nat) (last : Option LineNumber) (c : LineNumber) : List StripLine :=
  let k := missingLines last c
  (List.range k).map fun i => filledLine width (c - BitVec.ofNat 32 (k - i))

/-- A line is completed: truncated lines are counted, missing lines filled, the line handed on, and P becomes its number
(R24, R25). -/
def completeLine (l : Lane) (a : Assembly) (truncated : Bool) (s : State) : State :=
  let w := (s.profile.get l).width
  let lines := fillLines w (s.intake.get l).lastLine a.number ++ [paddedLine w a]
  let s := updIntake l (fun p => { p with assembly := none }) s
  let s := if truncated then tally l (fun c => { c with truncated := heldAdd countTop c.truncated 1 }) s else s
  let s := lines.foldl (fun t line => handLine l line t) s
  updIntake l (fun p => { p with lastLine := some a.number }) s

/-- The line with a cell's pixels appended; pixels at column W or beyond, and those above 29, are ignored (R23). -/
def appendPixels (width : Nat) (a : Assembly) (pixels : List Pixel) : Assembly :=
  { a with pixels := (a.pixels ++ pixels.take Config.lineCellPixels).take width }

/-- A cell's pixels enter its line, which LAST completes, whole or short (R23). -/
def extendLine (l : Lane) (a : Assembly) (pixels : List Pixel) (last : Bool) (s : State) : State :=
  let w := (s.profile.get l).width
  let b := appendPixels w a pixels
  if last then completeLine l b (b.pixels.length < w) s
  else updIntake l (fun p => { p with assembly := some b }) s

/-- A LINE cell out of order is dropped and counted (R23). -/
def dropLine (l : Lane) (s : State) : State :=
  updIntake l (fun p => { p with outOfOrder := heldAdd shortTop p.outOfOrder 1 }) s

/-- A LINE cell against the line in assembly and the last line number (R23). -/
def assembleLine (l : Lane) (m : LineNumber) (pixels : List Pixel) (last : Bool) (s : State) : State :=
  let begun : Assembly := { number := m, pixels := [] }
  match (s.intake.get l).assembly with
  | some a =>
    if m = a.number then extendLine l a pixels last s
    else if ahead m a.number then extendLine l begun pixels last (completeLine l a true s)
    else dropLine l s
  | none =>
    if (s.intake.get l).lastLine.all (fun p => ahead m p) then extendLine l begun pixels last s else dropLine l s

/-- A LINE cell taken from a port (R23, R27). Lines resumed is reported before the line is completed: the model's choice (log
entry 32). -/
def takeLine (l : Lane) (m : LineNumber) (pixels : List Pixel) (last : Bool) (s : State) : State :=
  assembleLine l m pixels last (resumeLines l (restartSilence l s))

/-- LINE_CELL (R23). Nothing arrives on a link that is DOWN (R169). -/
def execLineCell (l : Lane) (m : LineNumber) (pixels : List Pixel) (last : Bool) (s : State) :
    Host.Outcome State Fault Refusal :=
  .next (if (s.intake.get l).up then takeLine l m pixels last s else s)

/-! ### Edges and transport cells (R30, R36) -/

/-- A PERF cell taken from a port (R30): the edge is discarded in IDLE and DRAINING, else taken. -/
def takePerf (l : Lane) (q : Position) (s : State) : State :=
  let s := restartSilence l s
  match (s.lane.get l).state with
  | .idle => s
  | .draining => s
  | _ => settle (perfEdge l q s)

/-- PERF_CELL (R30). -/
def execPerfCell (l : Lane) (q : Position) (s : State) : Host.Outcome State Fault Refusal :=
  .next (if (s.intake.get l).up then takePerf l q s else s)

/-- A splice position appended, the oldest of 16 removed first (R36). -/
def appendSplice (q : Position) (splices : List Position) : List Position :=
  (if Config.spliceLimit ≤ splices.length then splices.tail else splices) ++ [q]

/-- The splice position of a TRANSPORT cell: discarded in IDLE, else appended (R36). -/
def takeSplice (l : Lane) (splice : Option Position) (s : State) : State :=
  match splice with
  | none => s
  | some q =>
    if (s.lane.get l).state = .idle then s else updReg l (fun u => { u with splices := appendSplice q u.splices }) s

/-- A TRANSPORT cell taken from a port (R36). -/
def takeTransport (l : Lane) (t : Tension) (splice : Option Position) (s : State) : State :=
  takeSplice l splice (tensionReport l t (restartSilence l s))

/-- TRANSPORT_CELL (R36). -/
def execTransportCell (l : Lane) (t : Tension) (splice : Option Position) (s : State) :
    Host.Outcome State Fault Refusal :=
  .next (if (s.intake.get l).up then takeTransport l t splice s else s)

/-! ### Silence expiry (R27) -/

/-- The silence timer is RUNNING. -/
def silenceRunning (p : IntakePort) : Bool :=
  match p.silence with
  | .running _ => true
  | .stopped => false
  | .expired => false

/-- The period of a RUNNING silence timer runs out (R27). -/
def expireSilence (l : Lane) (s : State) : State :=
  silenceReport l (updIntake l (fun p => { p with silence := .expired, resumeOwed := true }) s)

/-- SILENCE_EXPIRY (R27); a timer that is not RUNNING has no period to run out (log entry 2). -/
def execSilenceExpiry (l : Lane) (s : State) : Host.Outcome State Fault Refusal :=
  .next (if silenceRunning (s.intake.get l) then expireSilence l s else s)

end Sys2Proof.Machine
end

