-- ==== Sys2Proof/Machine/Lanes.lean ====
section
/-! DEFINITION. Opening and ending a pass (chapter 1): BEGIN_REEL, END_REEL, ABORT_REEL, RESET_LANE. -/

namespace Sys2Proof.Machine

/-! ### BEGIN_REEL (R6, R7) -/

/-- The lane record when BEGIN_REEL is taken (R6). -/
def openedLane (reel : BitVec 32) (first phase : Nat) (r : LaneRecord) : LaneRecord :=
  { r with serial := r.serial + 1, reel := reel, firstFrame := first, phase := phase, nextFrame := some first
           lastNumbered := none, state := .acquiring }

/-- The Intake Port at BEGIN_REEL (R7, R22). -/
def openedPort (p : IntakePort) : IntakePort := { p with assembly := none, lastLine := none, outOfOrder := 0 }

/-- The Shelving Controller at BEGIN_REEL (R7, R139). -/
def openedShelf (first : Nat) (u : ShelfUnit) : ShelfUnit :=
  { u with cursor := some first, reoffer := [], gaps := [], timedOut := [] }

/-- A BEGIN_REEL that is taken (R6, R7). -/
def beginPass (l : Lane) (reel : BitVec 32) (first phase : Nat) (s : State) : State :=
  let s := updLane l (openedLane reel first phase) s
  let s := updReg l (fun _ => regOn) s
  let s := updIntake l openedPort s
  let s := updDefect (fun d => { d with lastDetected := d.lastDetected.set l none }) s
  let s := updRepair (fun r => { r with cursor := r.cursor.set l none }) s
  let s := updGrading (fun g => { g with side := g.side.set l .even, lastGraded := g.lastGraded.set l none }) s
  let s := updCues l (fun c => { c with armed := false }) s
  let s := updShelf l (openedShelf first) s
  let s := updCond l (fun _ => openedRecord (s.lane.get l)) s
  recomputePace l s

/-- BEGIN_REEL on a lane, with its checks in turn (R6). -/
def beginReelOn (c : CommandCell) (l : Lane) (s : State) : State × Answer :=
  let first := leField c.payload 4 4
  let phase := leField c.payload 8 1
  if (s.lane.get l).state ≠ .idle then refuse .laneState s
  else if !(s.lane.get l).profileValid then refuse .profileInvalid s
  else if Config.lastFrame < first || (s.profile.get l).k ≤ phase then refuse .badField s
  else (beginPass l (BitVec.ofNat 32 (leField c.payload 0 4)) first phase s, done [])

/-- BEGIN_REEL (R6, R7). -/
def execBeginReel (c : CommandCell) (s : State) : Host.Outcome State Fault Refusal :=
  .next (takeCommand 0x01#8 c (onLane c fun l => withLength c 9 (beginReelOn c l)) s)

/-! ### END_REEL (R12) -/

/-- END_REEL on a lane, by its pass state (R12). -/
def endReelOn (l : Lane) (s : State) : State × Answer :=
  match (s.lane.get l).state with
  | .idle => refuse .laneState s
  | .acquiring => (enterIdle l s, done [])
  | .running => (settle (enterDraining l s), done [])
  | .lost => (settle (enterDraining l s), done [])
  | .draining => (s, done [])

/-- END_REEL (R12). -/
def execEndReel (c : CommandCell) (s : State) : Host.Outcome State Fault Refusal :=
  .next (takeCommand 0x02#8 c (onLane c fun l => withLength c 0 (endReelOn l)) s)

/-! ### ABORT_REEL (R16, R17, R61, R156) -/

/-- Slots of the lane whose frame has not been acknowledged OK (R17). -/
def unacknowledged (l : Lane) (s : State) : Nat := ((laneSlots l s).filter fun x => x.ack ≠ .acknowledged).length

/-- The frames an abort discards are counted (R17). A pending frame is placed, which raises the lane record's last frame numbered
as R9 has it, against R1's "unchanged": the model's choice (log entry 22). -/
def countDiscards (l : Lane) (s : State) : State :=
  let s := tally l (fun c => { c with discarded := heldAdd frameTop c.discarded (unacknowledged l s) }) s
  match (s.reg.get l).pendingFrame with
  | none => s
  | some p => tally l (fun c => { c with discarded := heldAdd frameTop c.discarded 1 }) (placeNumber l p.frame s)

/-- The Registration Unit at ABORT_REEL (R16, R29): R_prev and unsmoothed next unchanged. -/
def abortedReg (u : RegUnit) : RegUnit :=
  { regOn with prevRatio := u.prevRatio, unsmoothedNext := u.unsmoothedNext }

/-- Work of the detection engine on the lane's frames abandoned (R65, R68). -/
def abandonDetection (l : Lane) (d : DefectUnit) : DefectUnit :=
  { d with under := d.under.filter fun r => r.lane ≠ l, waitOrder := d.waitOrder.filter fun r => r.lane ≠ l
           lastDetected := d.lastDetected.set l none }

/-- Work of the repair engine on the lane's frames abandoned (R82, R86). -/
def abandonRepair (l : Lane) (r : RepairUnit) : RepairUnit :=
  { r with under := r.under.filter fun f => f.lane ≠ l, readyOrder := r.readyOrder.filter fun f => f.lane ≠ l }

/-- Work of the grading engine on the lane's frames abandoned (R100, R114). -/
def abandonGrading (l : Lane) (g : GradingUnit) : GradingUnit :=
  { dropStamps l g with under := g.under.filter fun u => u.ref.lane ≠ l }

/-- The three engines abandon the lane's work (R16, R19). -/
def abandonWork (l : Lane) (s : State) : State :=
  updGrading (abandonGrading l) (updRepair (abandonRepair l) (updDefect (abandonDetection l) s))

/-- Every slot of the lane FREE, its request dropped, its occupancy reviewed once, and the slots offered to the other
lane's pending extraction (R53, R61). -/
def freeLane (l : Lane) (s : State) : State :=
  let s := updSlots (fun t => t.map fun o => if o.any (fun x => x.lane = l) then none else o) s
  let s := updRequests (fun r => r.filter fun m => m ≠ l) s
  offerFree (reviewOccupancy l s)

/-- ABORT_REEL of a lane that has a pass (R16, R17). The entry to IDLE comes before the slots are freed, so that its PACE cell
names the occupancy level before the abort: the model's choice (log entry 20). -/
def abortPass (l : Lane) (s : State) : State :=
  let s := countDiscards l s
  let s := becomeIdle l s
  let s := updReg l abortedReg s
  let s := abandonWork l s
  let s := shelfAbort l s
  let s := freeLane l s
  let s := swapIfArmed l none s
  settle (finalise l true s)

/-- ABORT_REEL on a lane; in IDLE it changes nothing (R16). -/
def abortReelOn (l : Lane) (s : State) : State × Answer :=
  if (s.lane.get l).state = .idle then (s, done []) else (abortPass l s, done [])

/-- ABORT_REEL (R16). -/
def execAbortReel (c : CommandCell) (s : State) : Host.Outcome State Fault Refusal :=
  .next (takeCommand 0x03#8 c (onLane c fun l => withLength c 0 (abortReelOn l)) s)

/-! ### RESET_LANE (R19) -/

/-- The lane record at RESET_LANE (R1): pass serial and profile valid unchanged. -/
def resetLaneRecord (r : LaneRecord) : LaneRecord :=
  { laneRecordOn with serial := r.serial, profileValid := r.profileValid }

/-- The Intake Port at RESET_LANE (R19, R22). -/
def resetPort (p : IntakePort) : IntakePort :=
  { p with assembly := none, lastLine := none, silence := .stopped, resumeOwed := false, outOfOrder := 0 }

/-- An alarm record at RESET_LANE (R120): mode, pending mode and response set kept. -/
def resetAlarmRecord (r : AlarmRecord) : AlarmRecord :=
  { r with present := false, raised := false, inForce := false, ack := false, raiseCount := 0 }

/-- The alarm records and filter states at RESET_LANE (R120). -/
def resetAlarms (u : AlarmUnit) : AlarmUnit :=
  { alarmsOn with
    pace := u.pace
    records :=
      { damage := resetAlarmRecord u.records.damage, registration := resetAlarmRecord u.records.registration
        transport := resetAlarmRecord u.records.transport, stall := resetAlarmRecord u.records.stall
        baseShift := resetAlarmRecord u.records.baseShift } }

/-- RESET_LANE of a lane (R19). Its PACE cell comes after the slots are freed, with occupancy NORMAL (log entry 20). -/
def resetPass (l : Lane) (s : State) : State :=
  let s := updLane l resetLaneRecord s
  let s := updReg l (fun _ => regOn) s
  let s := updIntake l resetPort s
  let s := abandonWork l s
  let s := updRepair (fun r => { r with cursor := r.cursor.set l none
                                        firstUnrepairable := r.firstUnrepairable.set l none }) s
  let s := updGrading (fun g => { g with side := g.side.set l .even, lastGraded := g.lastGraded.set l none }) s
  let s := updCues l (fun c => { c with armed := false }) s
  let s := shelfReset l s
  let s := updAlarms l resetAlarms s
  let s := updCond l (fun _ => conditionOn) s
  let s := freeLane l s
  settle (recomputeResponses l s)

/-- RESET_LANE, taken in every pass state (R19). -/
def resetLaneOn (l : Lane) (s : State) : State × Answer := (resetPass l s, done [])

/-- RESET_LANE (R19). -/
def execResetLane (c : CommandCell) (s : State) : Host.Outcome State Fault Refusal :=
  .next (takeCommand 0x04#8 c (onLane c fun l => withLength c 0 (resetLaneOn l)) s)

end Sys2Proof.Machine
end

