-- ==== Sys2Proof/Machine/Links.lean ====
section
/-! DEFINITION. The links: power-on reset (R185), link resets and link starts (R28, R133, R155, R169), and cells dropped at
the ports (R170). -/

namespace Sys2Proof.Machine

/-! ### Archive link (R155, R169) -/

/-- The Archive Port at an archive link reset (R169, R154, R172, R176). -/
def archiveDown (p : ArchivePort) : ArchivePort :=
  { p with up := false, replies := [], notices := [], lastFrameLane := none, sending := none }

/-- An archive link reset (R155, R169). It leaves every alarm field and every condition record unchanged (R120, R159): where
the close of a FAILED entry stops shelving with frames waiting, R153's result is noted here, and STALL takes it at the lane's
next STALL report (R124): the model's choice (log entry 19). -/
def resetArchiveLink (s : State) : State :=
  noteWaiting .b (noteWaiting .a (shelfLinkReset .b (shelfLinkReset .a (updArchive archiveDown s))))

/-- ARCHIVE_LINK_RESET (R169); a link that is DOWN has no sync to lose (log entry 2). -/
def execArchiveLinkReset (s : State) : Host.Outcome State Fault Refusal :=
  .next (if s.archive.up then resetArchiveLink s else s)

/-- The links may train: the reset input is released, and was held low long enough (R185). -/
def mayTrain (s : State) : Bool := !s.part.resetLow && !s.part.linksBarred

/-- The archive link becomes UP: the LINK pause source of both lanes clears (R141, R169). -/
def startArchiveLink (s : State) : State :=
  let clear := fun u : ShelfUnit => { u with pauseLink := false }
  settle (changePause .b clear (changePause .a clear (updArchive (fun p => { p with up := true }) s)))

/-- ARCHIVE_LINK_UP (R169). -/
def execArchiveLinkUp (s : State) : Host.Outcome State Fault Refusal :=
  .next (if mayTrain s && !s.archive.up then startArchiveLink s else s)

/-! ### Intake links (R28, R133, R169) -/

/-- The Intake Port at an intake link reset (R28, R133, R169): last line number and resume owed kept. -/
def intakeDown (p : IntakePort) : IntakePort :=
  { p with up := false, assembly := none, silence := .stopped, pacePlace := none }

/-- An intake link reset (R28). -/
def resetIntakeLink (l : Lane) (s : State) : State := updIntake l intakeDown s

/-- INTAKE_LINK_RESET (R28, R169). -/
def execIntakeLinkReset (l : Lane) (s : State) : Host.Outcome State Fault Refusal :=
  .next (if (s.intake.get l).up then resetIntakeLink l s else s)

/-- An intake link becomes UP: its port places a PACE cell with the lane's current level (R133). -/
def startIntakeLink (l : Lane) (s : State) : State := placePace l (updIntake l (fun p => { p with up := true }) s)

/-- INTAKE_LINK_UP (R133, R169). -/
def execIntakeLinkUp (l : Lane) (s : State) : Host.Outcome State Fault Refusal :=
  .next (if mayTrain s && !(s.intake.get l).up then startIntakeLink l s else s)

/-! ### Power-on reset (R185) -/

/-- Every piece of the part's state at its power-on value; the queue of commands and the counter of free values are the
model's own and stay (R185, log entries 4 and 15). -/
def powerOn (heldLongEnough : Bool) (s : State) : State :=
  { State.reset with
    part := { partOn with linksBarred := !heldLongEnough }, freeIndex := s.freeIndex, pending := s.pending }

/-- POWER_ON_RESET: the release of the reset input (R185). -/
def execPowerOnReset (heldLongEnough : Bool) (s : State) : Host.Outcome State Fault Refusal :=
  .next (powerOn heldLongEnough s)

/-- One link is taken DOWN by the reset input, which is its link reset if it was UP (R169, R185, log entry 7). -/
def dropIntake (l : Lane) (s : State) : State := if (s.intake.get l).up then resetIntakeLink l s else s

/-- The reset input goes low: every link is DOWN, the timebase does not count (R185, log entry 7). -/
def pullResetLow (s : State) : State :=
  let t := dropIntake .b (dropIntake .a s)
  let t := if t.archive.up then resetArchiveLink t else t
  setPart { resetLow := true, linksBarred := t.part.linksBarred, timebase := false } t

/-- RESET_INPUT_LOW (R185). -/
def execResetInputLow (s : State) : Host.Outcome State Fault Refusal := .next (pullResetLow s)

/-! ### Cells dropped at the ports (R170) -/

/-- The link is UP (R169). -/
def linkUp (k : Link) (s : State) : Bool :=
  match k with
  | .archive => s.archive.up
  | .intake l => (s.intake.get l).up

/-- A link's count of dropped cells, one higher (R170). -/
def countDrop (k : Link) (d : DropCount) (s : State) : State :=
  match k, d with
  | .archive, .checkError => updArchive (fun p => { p with checkErrors := heldAdd shortTop p.checkErrors 1 }) s
  | .archive, .malformed => updArchive (fun p => { p with malformed := heldAdd shortTop p.malformed 1 }) s
  | .intake l, .checkError => updIntake l (fun p => { p with checkErrors := heldAdd shortTop p.checkErrors 1 }) s
  | .intake l, .malformed => updIntake l (fun p => { p with malformed := heldAdd shortTop p.malformed 1 }) s

/-- CELL_CHECK_DROP (R170); bytes that pass the checks, or are not a cell, are not this event (log entry 2). -/
def execCellCheckDrop (k : Link) (bytes : List Byte) (s : State) : Host.Outcome State Fault Refusal :=
  .next (match linkUp k s && bytes.length == 256, dropClass k bytes with
    | true, some d => countDrop k d s
    | _, _ => s)

end Sys2Proof.Machine
end

