-- ==== Sys2Proof/Machine/ShelfCommands.lean ====
section
/-! DEFINITION. The commands of the Shelving Controller: WRITE_SHELF (R138), SHELF_CONFIG (R140), SHELF_START (R142),
SHELF_PAUSE and SHELF_RESUME (R141), SHELF_STOP (R143). -/

namespace Sys2Proof.Machine

/-- Code of a shelving state (R174). -/
def shelvingCode : ShelvingState → Nat
  | .stopped => 0
  | .running => 1
  | .pausing => 2
  | .paused => 3
  | .stopping => 4

/-- Code of a stop reason (R174). -/
def stopCode : StopReason → Nat
  | .none => 0
  | .stopIndex => 1
  | .endOfList => 2
  | .entryNotReady => 3
  | .command => 4

/-! ### WRITE_SHELF (R138) -/

/-- An entry is in use: OPEN, or FAILED with an offer awaiting its acknowledge (R137). -/
def entryInUse (u : ShelfUnit) (i : Nat) : Bool :=
  (entryAt u i).status = .opened || ((entryAt u i).status = .failed && (laneOffers u).any fun o => o.entry = i)

/-- WRITE_SHELF on a lane, with its checks in turn (R138). -/
def writeShelfOn (c : CommandCell) (l : Lane) (s : State) : State × Answer :=
  let first := leField c.payload 0 1
  let count := leField c.payload 1 1
  if !countedLength c 2 11 1 8 count then refuse .badLength s
  else if Config.shelfCount < first + count then refuse .badField s
  else match readRecords readShelfEntry c.payload 2 11 count with
    | none => refuse .badField s
    | some entries =>
      if (List.range' first count).any (entryInUse (s.shelf.get l)) then refuse .entryOpen s
      else (updShelf l (fun u => { u with entries := writeFrom u.entries first entries }) s, done [])

/-- WRITE_SHELF (R138). -/
def execWriteShelf (c : CommandCell) (s : State) : Host.Outcome State Fault Refusal :=
  .next (takeCommand 0x30#8 c (onLane c (writeShelfOn c)) s)

/-! ### SHELF_CONFIG (R140) -/

/-- A stop index byte: 0 to 31, or NONE (R140, R174). -/
def readStopIndex (n : Nat) : Option (Option Nat) :=
  if n = 255 then some none else if n < Config.shelfCount then some (some n) else none

/-- SHELF_CONFIG on a lane, with its checks in turn (R140). -/
def shelfConfigOn (c : CommandCell) (l : Lane) (s : State) : State × Answer :=
  let blocks := leField c.payload 0 2
  let code := leField c.payload 4 1
  if (s.shelf.get l).state ≠ .stopped then refuse .laneState s
  else if c.payload.length ≠ 5 then refuse .badLength s
  else match readStopIndex (leField c.payload 2 1), flagField (leField c.payload 3 1) with
    | some stop, some auto =>
      if blocks = 0 || 8 < code then refuse .badField s
      else
        (updShelf l (fun u => { u with
          blocksPerFrame := blocks, stopIndex := stop, autoRestart := auto, ackCode := code }) s, done [])
    | _, _ => refuse .badField s

/-- SHELF_CONFIG (R140). -/
def execShelfConfig (c : CommandCell) (s : State) : Host.Outcome State Fault Refusal :=
  .next (takeCommand 0x31#8 c (onLane c (shelfConfigOn c)) s)

/-! ### SHELF_START (R142) -/

/-- STOPPED shelving started at its current entry: RUNNING, or PAUSED if a pause source is set (R142). -/
def startedShelf (u : ShelfUnit) : ShelfUnit :=
  if (entryAt u u.current).status = .ready then
    updEntry u.current (fun e => { e with status := .opened })
      { u with state := if isPaused u then .paused else .running, reason := .none }
  else stopFor .entryNotReady u

/-- The data of a SHELF_START reply (R142, R184). -/
def startData (u : ShelfUnit) : List Byte := [one (shelvingCode u.state), one (stopCode u.reason), one u.current]

/-- SHELF_START on a lane, by its shelving state (R142); the reply gives the state after the command. -/
def shelfStartOn (l : Lane) (s : State) : State × Answer :=
  match (s.shelf.get l).state with
  | .stopped =>
    if (s.shelf.get l).blocksPerFrame = 0 then refuse .notConfigured s
    else
      let t := settle (updShelf l startedShelf s)
      (t, done (startData (t.shelf.get l)))
  | .stopping => refuse .laneState s
  | _ =>
    let t := updShelf l (fun u => { u with trigger := true }) s
    (t, done (startData (t.shelf.get l)))

/-- SHELF_START (R142). -/
def execShelfStart (c : CommandCell) (s : State) : Host.Outcome State Fault Refusal :=
  .next (takeCommand 0x32#8 c (onLane c fun l => withLength c 0 (shelfStartOn l)) s)

/-! ### SHELF_PAUSE, SHELF_RESUME (R141) -/

/-- SHELF_PAUSE on a lane (R141). -/
def shelfPauseOn (l : Lane) (s : State) : State × Answer :=
  (changePause l (fun u => { u with pauseManual := true }) s, done [])

/-- SHELF_PAUSE (R141). -/
def execShelfPause (c : CommandCell) (s : State) : Host.Outcome State Fault Refusal :=
  .next (takeCommand 0x33#8 c (onLane c fun l => withLength c 0 (shelfPauseOn l)) s)

/-- SHELF_RESUME on a lane (R141). -/
def shelfResumeOn (l : Lane) (s : State) : State × Answer :=
  (changePause l (fun u => { u with pauseManual := false }) s, done [])

/-- SHELF_RESUME (R141). -/
def execShelfResume (c : CommandCell) (s : State) : Host.Outcome State Fault Refusal :=
  .next (takeCommand 0x34#8 c (onLane c fun l => withLength c 0 (shelfResumeOn l)) s)

/-! ### SHELF_STOP (R143) -/

/-- SHELF_STOP at the Shelving Controller, by its state (R143). -/
def stopShelf (u : ShelfUnit) : ShelfUnit :=
  match u.state with
  | .stopped => { u with reason := .command, current := 0 }
  | .stopping => u
  | _ => if (laneOffers u).isEmpty then stoppedByCommand u else { u with state := .stopping }

/-- SHELF_STOP on a lane; "stopped with frames waiting" is tested (R143, R153). -/
def shelfStopOn (l : Lane) (s : State) : State × Answer := (reportWaiting l (updShelf l stopShelf s), done [])

/-- SHELF_STOP (R143). -/
def execShelfStop (c : CommandCell) (s : State) : Host.Outcome State Fault Refusal :=
  .next (takeCommand 0x35#8 c (onLane c fun l => withLength c 0 (shelfStopOn l)) s)

end Sys2Proof.Machine
end

