-- ==== Sys2Proof/Machine/Reads.lean ====
section
/-! DEFINITION. The commands that read: READ_LANE (R21, R177), READ_SHELF (R157), READ_CONDITION (R168),
READ_FIRST_UNREPAIRABLE (R98), QUERY_PART (R178), with the reply data of R184. -/

namespace Sys2Proof.Machine

/-! ### READ_LANE (R177) -/

/-- Code of a pass state (R174). -/
def passCode : PassState → Nat
  | .idle => 0
  | .acquiring => 1
  | .running => 2
  | .lost => 3
  | .draining => 4

/-- Code of a silence timer state (R174). -/
def silenceCodeOf : SilenceTimer → Nat
  | .stopped => 0
  | .running _ => 1
  | .expired => 2

/-- Bytes 0 to 21: the lane record (R1, R184). -/
def laneBytes (r : LaneRecord) : List Byte :=
  [one (passCode r.state)] ++ leBytes 2 r.serial.toNat ++ leBytes 4 r.reel.toNat ++ leBytes 4 r.firstFrame
    ++ [one r.phase] ++ optBytes 4 r.nextFrame ++ optBytes 4 r.lastNumbered
    ++ [flagByte r.profileValid, flagByte r.noticeOverflow]

/-- Bytes 22 to 29: the Intake Port (R22, R184; log entry 13). -/
def portBytes (p : IntakePort) : List Byte :=
  [flagByte p.lastLine.isSome] ++ optBytes 4 (p.lastLine.map BitVec.toNat) ++ [one (silenceCodeOf p.silence)]
    ++ leBytes 2 p.outOfOrder

/-- The stages of R48 in order. -/
def allStages : List Stage :=
  [.extracting, .detecting, .awaitNeighbour, .repairing, .gradingWait, .grading, .shelfWait, .offered, .shelvedHeld]

/-- Number of the lane's slots at a stage (R64). -/
def stageCount (l : Lane) (s : State) (g : Stage) : Nat := (laneSlots l s).countP fun x => x.stage = g

/-- Bytes 30 to 51: the Frame Store (R64, R184). -/
def storeBytes (l : Lane) (s : State) : List Byte :=
  let o := s.occupancy.get l
  [one (heldCount l s), one (freeCount s), one (levelCode o.level), one o.slow, one o.hold]
    ++ allStages.map (fun g => one (stageCount l s g))
    ++ optBytes 4 ((s.reg.get l).pendingFrame.map PendingFrame.frame) ++ optBytes 4 (s.repair.cursor.get l)

/-- The frame of an engine if it is the lane's (R81, R99, R119). -/
def ownFrame (l : Lane) (r : Option FrameRef) : Option Nat := (r.filter fun f => f.lane = l).map FrameRef.frame

/-- Bytes 52 to 60: the Defect Unit (R81, R184). -/
def defectBytes (l : Lane) (s : State) : List Byte :=
  [one (stageCount l s .detecting)] ++ optBytes 4 (ownFrame l s.defect.under) ++ optBytes 4 (s.defect.lastDetected.get l)

/-- The lane's frames at GRADING_WAIT not yet released to grading (R96, R99). -/
def unreleased (l : Lane) (s : State) : Nat :=
  (laneSlots l s).countP fun x => x.stage = .gradingWait && !successorSettled l x.frame s

/-- Bytes 61 to 73: the Repair Unit (R99, R184). -/
def repairBytes (l : Lane) (s : State) : List Byte :=
  optBytes 4 (s.repair.cursor.get l) ++ optBytes 4 (ownFrame l s.repair.under) ++ optBytes 4 (inReadyOrder l s)
    ++ [one (unreleased l s)]

/-- Bytes 74 to 90: the Grading Unit (R119, R184). -/
def gradingBytes (l : Lane) (s : State) : List Byte :=
  let u := s.cues.get l
  [one (sideCode (s.grading.side.get l)), flagByte u.armed, one u.active.count, one u.shadow.count]
    ++ optBytes 4 (s.grading.lastGraded.get l) ++ optBytes 4 (ownFrame l (s.grading.under.map UnderGrading.ref))
    ++ optBytes 4 (gradingCandidate l s) ++ [one (s.grading.stamps.countP fun e => e.lane = l)]

/-- The six bytes of an alarm record (R136, R184). -/
def alarmBytes (r : AlarmRecord) : List Byte :=
  [one (modeCode r.mode)] ++ optBytes 1 (r.pendingMode.map modeCode)
    ++ [one (responsesCode r.responses),
        one (r.present.toNat + 2 * r.raised.toNat + 4 * r.inForce.toNat + 8 * r.ack.toNat)]
    ++ leBytes 2 r.raiseCount

/-- Bytes 91 to 123: the Alarm Controller (R136, R184). -/
def controllerBytes (l : Lane) (s : State) : List Byte :=
  allSources.flatMap (fun src => alarmBytes (alarmRecord l src s))
    ++ [one (responsesCode (responsesInForce l s)), one (levelCode (s.alarms.get l).pace),
        one (levelCode (s.occupancy.get l).level)]

/-- The 124 bytes of a READ_LANE reply (R177, R184). -/
def laneData (l : Lane) (s : State) : List Byte :=
  laneBytes (s.lane.get l) ++ portBytes (s.intake.get l) ++ storeBytes l s ++ defectBytes l s ++ repairBytes l s
    ++ gradingBytes l s ++ controllerBytes l s

/-- READ_LANE on a lane: the notice overflow is returned, then cleared (R21). -/
def readLaneOn (l : Lane) (s : State) : State × Answer :=
  (updLane l (fun r => { r with noticeOverflow := false }) s, done (laneData l s))

/-- READ_LANE (R21, R177). -/
def execReadLane (c : CommandCell) (s : State) : Host.Outcome State Fault Refusal :=
  .next (takeCommand 0x40#8 c (onLane c fun l => withLength c 0 (readLaneOn l)) s)

/-! ### READ_SHELF (R157) -/

/-- A list of bytes made `n` long, zeros at its end. -/
def padTo (n : Nat) (bs : List Byte) : List Byte := (bs ++ List.replicate (n - bs.length) 0#8).take n

/-- The 12 bytes of an outstanding offer (R184). -/
def offerBytes (o : Offer) : List Byte := leBytes 2 o.number.toNat ++ leBytes 4 o.frame ++ leBytes 6 o.block

/-- The 31 bytes of a shelf entry (R137, R184). -/
def entryBytes (e : ShelfEntry) : List Byte :=
  leBytes 2 e.volume ++ leBytes 6 e.startBlock ++ leBytes 2 e.capacity
    ++ [one (e.notify.toNat + 2 * e.eol.toNat), one (statusCode e.status)]
    ++ leBytes 2 e.written ++ leBytes 2 e.remaining ++ optBytes 4 e.firstFailed ++ leBytes 2 e.nextPlace
    ++ [one e.freePlaces.length] ++ padTo 8 (e.freePlaces.flatMap fun p => leBytes 2 p)

/-- Bytes 0 to 78 of a READ_SHELF reply (R184). -/
def shelfBytes (u : ShelfUnit) : List Byte :=
  [one (shelvingCode u.state), one (stopCode u.reason), one u.current, flagByte u.trigger,
    one (u.pauseManual.toNat + 2 * u.pauseAlarm.toNat + 4 * u.pauseLink.toNat)]
    ++ leBytes 2 u.blocksPerFrame ++ optBytes 1 u.stopIndex ++ [flagByte u.autoRestart, one u.ackCode]
    ++ leBytes 2 u.offerCounter.toNat
    ++ optBytes 4 ((transmitting u).map Offer.frame) ++ leBytes 2 (((transmitting u).map fun o => o.number.toNat).getD 0)
    ++ [one u.outstanding.length] ++ padTo 48 (u.outstanding.flatMap offerBytes)
    ++ [one u.reoffer.length] ++ leBytes 4 u.gaps.length ++ optBytes 4 u.cursor ++ [one u.timedOut.length]
    ++ leBytes 2 u.stale

/-- The bytes of a READ_SHELF reply (R157, R184). -/
def shelfData (first count : Nat) (u : ShelfUnit) : List Byte :=
  shelfBytes u ++ (List.range' first count).flatMap fun i => entryBytes (entryAt u i)

/-- READ_SHELF on a lane, its length checked (R157). -/
def readShelfOn (c : CommandCell) (l : Lane) (s : State) : State × Answer :=
  let first := leField c.payload 0 1
  let count := leField c.payload 1 1
  if count < 1 || 4 < count || Config.shelfCount < first + count then refuse .badField s
  else (s, done (shelfData first count (s.shelf.get l)))

/-- READ_SHELF (R157). -/
def execReadShelf (c : CommandCell) (s : State) : Host.Outcome State Fault Refusal :=
  .next (takeCommand 0x41#8 c (onLane c fun l => withLength c 2 (readShelfOn c l)) s)

/-! ### READ_CONDITION (R168) -/

/-- Code of a record condition (R182). -/
def conditionCode : RecordCondition → Nat
  | .cleared => 0
  | .opened => 1
  | .finalised => 2

/-- READ_CONDITION on a lane (R168). -/
def readConditionOn (l : Lane) (s : State) : State × Answer :=
  (s, done (one (conditionCode (s.cond.get l).condition) :: conditionPayload (s.cond.get l).record))

/-- READ_CONDITION (R168). -/
def execReadCondition (c : CommandCell) (s : State) : Host.Outcome State Fault Refusal :=
  .next (takeCommand 0x42#8 c (onLane c fun l => withLength c 0 (readConditionOn l)) s)

/-! ### READ_FIRST_UNREPAIRABLE (R98) -/

/-- The 6 bytes of the register (R98, R184). -/
def unrepairableData (u : Option Unrepairable) : List Byte :=
  leBytes 2 ((u.map fun x => x.serial.toNat).getD 0) ++ optBytes 4 (u.map Unrepairable.frame)

/-- READ_FIRST_UNREPAIRABLE on a lane: the register is returned and becomes NONE (R98). -/
def readFirstUnrepairableOn (l : Lane) (s : State) : State × Answer :=
  (updRepair (fun r => { r with firstUnrepairable := r.firstUnrepairable.set l none }) s,
    done (unrepairableData (s.repair.firstUnrepairable.get l)))

/-- READ_FIRST_UNREPAIRABLE (R98). -/
def execReadFirstUnrepairable (c : CommandCell) (s : State) : Host.Outcome State Fault Refusal :=
  .next (takeCommand 0x43#8 c (onLane c fun l => withLength c 0 (readFirstUnrepairableOn l)) s)

/-! ### QUERY_PART (R178) -/

/-- The 5 bytes of a link (R178, R184). -/
def linkBytes (up : Bool) (checkErrors malformed : Nat) : List Byte :=
  [flagByte up] ++ leBytes 2 checkErrors ++ leBytes 2 malformed

/-- The 5 bytes of an intake link. -/
def intakeLinkBytes (p : IntakePort) : List Byte := linkBytes p.up p.checkErrors p.malformed

/-- The 33 bytes of a QUERY_PART reply (R178, R184). -/
def partData (s : State) : List Byte :=
  [one Config.revision, one 2, one Config.slotCount, one Config.laneSlotLimit] ++ leBytes 2 Config.stripDepth
    ++ [one Config.bankCount] ++ leBytes 2 Config.curveEntries
    ++ [one Config.cuePositions, one Config.ruleCount, one Config.shelfCount, one Config.keptRecords,
        one Config.offerLimit, one Config.replyQueueSize, one Config.noticeQueueSize]
    ++ intakeLinkBytes s.intake.a ++ intakeLinkBytes s.intake.b
    ++ linkBytes s.archive.up s.archive.checkErrors s.archive.malformed ++ leBytes 2 s.archive.overruns

/-- QUERY_PART's answer (R178). -/
def queryPart (s : State) : State × Answer := (s, done (partData s))

/-- QUERY_PART, a part-wide command (R171, R178). -/
def execQueryPart (c : CommandCell) (s : State) : Host.Outcome State Fault Refusal :=
  .next (takeCommand 0x44#8 c (withLength c 0 queryPart) s)

end Sys2Proof.Machine
end

