-- ==== Sys2Proof/Machine/Tables.lean ====
section
/-! DEFINITION. The commands that load tables and settings: LOAD_PROFILE (R4), WRITE_RULES (R77), WRITE_BANK (R102),
WRITE_CUES (R106), COMMIT_CUES (R107), CANCEL_CUES (R108), WRITE_HOUSING (R164), SET_PACE_MARKS (R63), SET_NOTICES (R175). -/

namespace Sys2Proof.Machine

/-! ### LOAD_PROFILE (R4) -/

/-- LOAD_PROFILE on a lane, with its checks in turn (R4). -/
def loadProfileOn (c : CommandCell) (l : Lane) (s : State) : State × Answer :=
  if (s.lane.get l).state ≠ .idle then refuse .laneState s
  else if c.payload.length ≠ 47 then refuse .badLength s
  else match readProfile c.payload with
    | none => refuse .badField s
    | some p => (updLane l (fun r => { r with profileValid := true }) (setProfile l p s), done [])

/-- LOAD_PROFILE (R4). -/
def execLoadProfile (c : CommandCell) (s : State) : Host.Outcome State Fault Refusal :=
  .next (takeCommand 0x10#8 c (onLane c (loadProfileOn c)) s)

/-! ### WRITE_RULES (R77) -/

/-- WRITE_RULES on a lane, with its checks in turn (R77). -/
def writeRulesOn (c : CommandCell) (l : Lane) (s : State) : State × Answer :=
  let first := leField c.payload 0 1
  let count := leField c.payload 1 1
  if (s.lane.get l).state ≠ .idle then refuse .laneState s
  else if !countedLength c 2 20 1 8 count then refuse .badLength s
  else if Config.ruleCount < first + count then refuse .badField s
  else match readRecords readRule c.payload 2 20 count with
    | none => refuse .badField s
    | some rules => (updRules l (fun t => writeFrom t first rules) s, done [])

/-- WRITE_RULES (R77). -/
def execWriteRules (c : CommandCell) (s : State) : Host.Outcome State Fault Refusal :=
  .next (takeCommand 0x11#8 c (onLane c (writeRulesOn c)) s)

/-! ### WRITE_BANK (R102) -/

/-- A curve with values written from an index on, their marks set (R102). -/
def writeCurve (first : Nat) (values : List Sample) (curve : List CurveEntry) : List CurveEntry :=
  writeFrom curve first (values.map fun v => { value := v, written := true })

/-- A bank with one channel's curve changed (R102): R 0, G 1, B 2. -/
def writeChannel (channel : Nat) (f : List CurveEntry → List CurveEntry) (b : Bank) : Bank :=
  match channel with
  | 0 => { b with r := f b.r }
  | 1 => { b with g := f b.g }
  | _ => { b with b := f b.b }

/-- WRITE_BANK, with its checks in turn (R102). -/
def writeBankPart (c : CommandCell) (s : State) : State × Answer :=
  let bank := leField c.payload 0 1
  let channel := leField c.payload 1 1
  let first := leField c.payload 2 2
  let count := leField c.payload 4 1
  if !countedLength c 5 2 1 64 count then refuse .badLength s
  else if 7 < bank || 2 < channel || Config.curveEntries < first + count then refuse .badField s
  else if bankLive bank s then refuse .bankLive s
  else match readRecords readValue c.payload 5 2 count with
    | none => refuse .badField s
    | some values =>
      let t := updBanks (fun bs => bs.modify bank (writeChannel channel (writeCurve first values))) s
      (t, done [flagByte (bankComplete (bankAt t bank))])

/-- WRITE_BANK, a part-wide command (R102, R171). -/
def execWriteBank (c : CommandCell) (s : State) : Host.Outcome State Fault Refusal :=
  .next (takeCommand 0x12#8 c (writeBankPart c) s)

/-! ### Cue lists (R106 to R108) -/

/-- WRITE_CUES on a lane, with its checks in turn (R106, log entry 14). -/
def writeCuesOn (c : CommandCell) (l : Lane) (s : State) : State × Answer :=
  let first := leField c.payload 0 1
  let count := leField c.payload 1 1
  let shadow := leField c.payload 2 1
  if (s.cues.get l).armed then refuse .cuesArmed s
  else if !countedLength c 3 12 0 16 count then refuse .badLength s
  else if Config.cuePositions < first + count || Config.cuePositions < shadow then refuse .badField s
  else match readRecords readCue c.payload 3 12 count with
    | none => refuse .badField s
    | some cues =>
      (updCues l (fun u => { u with shadow := { entries := writeFrom u.shadow.entries first cues, count := shadow } }) s,
        done [])

/-- WRITE_CUES (R106). -/
def execWriteCues (c : CommandCell) (s : State) : Host.Outcome State Fault Refusal :=
  .next (takeCommand 0x13#8 c (onLane c (writeCuesOn c)) s)

/-- Code of a CUES_INVALID cause (R184). -/
def cueFaultCode : CueFault → Nat
  | .order => 0
  | .incompleteBank => 1

/-- COMMIT_CUES on a lane, its length checked (R107 steps 2 to 5). -/
def commitCuesOn (l : Lane) (s : State) : State × Answer :=
  if (s.cues.get l).armed then (s, done [])
  else match validateCues s (cuesInUse (s.cues.get l).shadow) 0 none with
    | some (i, cause) => (s, { reason := some .cuesInvalid, data := [one i, one (cueFaultCode cause)] })
    | none =>
      if (s.lane.get l).state = .idle then (swapCues l none s, done [])
      else (updCues l (fun u => { u with armed := true }) s, done [])

/-- COMMIT_CUES (R107). -/
def execCommitCues (c : CommandCell) (s : State) : Host.Outcome State Fault Refusal :=
  .next (takeCommand 0x14#8 c (onLane c fun l => withLength c 0 (commitCuesOn l)) s)

/-- CANCEL_CUES on a lane (R108). -/
def cancelCuesOn (l : Lane) (s : State) : State × Answer := (updCues l (fun u => { u with armed := false }) s, done [])

/-- CANCEL_CUES (R108). -/
def execCancelCues (c : CommandCell) (s : State) : Host.Outcome State Fault Refusal :=
  .next (takeCommand 0x15#8 c (onLane c fun l => withLength c 0 (cancelCuesOn l)) s)

/-! ### WRITE_HOUSING (R164) -/

/-- WRITE_HOUSING, its length checked (R164). -/
def writeHousingPart (c : CommandCell) (s : State) : State × Answer :=
  match readHousing c.payload with
  | none => refuse .badField s
  | some t => (setHousing t s, done [])

/-- WRITE_HOUSING, a part-wide command (R164, R171). -/
def execWriteHousing (c : CommandCell) (s : State) : Host.Outcome State Fault Refusal :=
  .next (takeCommand 0x16#8 c (withLength c 46 (writeHousingPart c)) s)

/-! ### SET_PACE_MARKS (R63) -/

/-- SET_PACE_MARKS on a lane, its length checked (R63). -/
def setPaceMarksOn (c : CommandCell) (l : Lane) (s : State) : State × Answer :=
  let slow := leField c.payload 0 1
  let hold := leField c.payload 1 1
  if slow < 2 || 16 < slow || hold < slow || 16 < hold then refuse .badField s
  else (reviewOccupancy l (updOccupancy l (fun o => { o with slow := slow, hold := hold }) s), done [])

/-- SET_PACE_MARKS (R63). -/
def execSetPaceMarks (c : CommandCell) (s : State) : Host.Outcome State Fault Refusal :=
  .next (takeCommand 0x22#8 c (onLane c fun l => withLength c 2 (setPaceMarksOn c l)) s)

/-! ### SET_NOTICES (R175) -/

/-- The notice mask of a mask byte, bits 0 to 3 (R175). -/
def readMask (n : Nat) : NoticeMask :=
  { firstUnrepairable := n.testBit 0, cuesSwapped := n.testBit 1, alarmRaised := n.testBit 2
    alarmReleased := n.testBit 3 }

/-- SET_NOTICES on a lane, its length checked (R175). -/
def setNoticesOn (c : CommandCell) (l : Lane) (s : State) : State × Answer :=
  if 15 < leField c.payload 0 1 then refuse .badField s
  else (setMask l (readMask (leField c.payload 0 1)) s, done [])

/-- SET_NOTICES (R175). -/
def execSetNotices (c : CommandCell) (s : State) : Host.Outcome State Fault Refusal :=
  .next (takeCommand 0x45#8 c (onLane c fun l => withLength c 1 (setNoticesOn c l)) s)

end Sys2Proof.Machine
end

