-- ==== Sys2Proof/Machine/Dispatch.lean ====
section
/-! DEFINITION. What each command does to everything but the queue: one arm for each constructor of Instr, each one call of
its meaning. -/

namespace Sys2Proof.Machine

def exec (i : Instr) (s : State) : Host.Outcome State Fault Refusal :=
  match i with
  | .powerOnReset h => Sys2Proof.Machine.execPowerOnReset h s
  | .archiveLinkReset => Sys2Proof.Machine.execArchiveLinkReset s
  | .archiveLinkUp => Sys2Proof.Machine.execArchiveLinkUp s
  | .intakeLinkReset p => Sys2Proof.Machine.execIntakeLinkReset p s
  | .intakeLinkUp p => Sys2Proof.Machine.execIntakeLinkUp p s
  | .cellCheckDrop k bytes => Sys2Proof.Machine.execCellCheckDrop k bytes s
  | .lineCell p m px last => Sys2Proof.Machine.execLineCell p m px last s
  | .perfCell p q => Sys2Proof.Machine.execPerfCell p q s
  | .transportCell p t sp => Sys2Proof.Machine.execTransportCell p t sp s
  | .storeAck l n r => Sys2Proof.Machine.execStoreAck l n r s
  | .silenceExpiry p => Sys2Proof.Machine.execSilenceExpiry p s
  | .ackTimeoutExpiry l n => Sys2Proof.Machine.execAckTimeoutExpiry l n s
  | .detectionEnd => Sys2Proof.Machine.execDetectionEnd s
  | .repairEnd => Sys2Proof.Machine.execRepairEnd s
  | .gradingEnd => Sys2Proof.Machine.execGradingEnd s
  | .archiveCellSent e => Sys2Proof.Machine.execArchiveCellSent e s
  | .paceCellSent p => Sys2Proof.Machine.execPaceCellSent p s
  | .commandOverrun code c => Sys2Proof.Machine.execCommandOverrun code c s
  | .unknownCommand code c => Sys2Proof.Machine.execUnknownCommand code c s
  | .beginReel c => Sys2Proof.Machine.execBeginReel c s
  | .endReel c => Sys2Proof.Machine.execEndReel c s
  | .abortReel c => Sys2Proof.Machine.execAbortReel c s
  | .resetLane c => Sys2Proof.Machine.execResetLane c s
  | .loadProfile c => Sys2Proof.Machine.execLoadProfile c s
  | .writeRules c => Sys2Proof.Machine.execWriteRules c s
  | .writeBank c => Sys2Proof.Machine.execWriteBank c s
  | .writeCues c => Sys2Proof.Machine.execWriteCues c s
  | .commitCues c => Sys2Proof.Machine.execCommitCues c s
  | .cancelCues c => Sys2Proof.Machine.execCancelCues c s
  | .writeHousing c => Sys2Proof.Machine.execWriteHousing c s
  | .setAlarm c => Sys2Proof.Machine.execSetAlarm c s
  | .ackAlarm c => Sys2Proof.Machine.execAckAlarm c s
  | .setPaceMarks c => Sys2Proof.Machine.execSetPaceMarks c s
  | .writeShelf c => Sys2Proof.Machine.execWriteShelf c s
  | .shelfConfig c => Sys2Proof.Machine.execShelfConfig c s
  | .shelfStart c => Sys2Proof.Machine.execShelfStart c s
  | .shelfPause c => Sys2Proof.Machine.execShelfPause c s
  | .shelfResume c => Sys2Proof.Machine.execShelfResume c s
  | .shelfStop c => Sys2Proof.Machine.execShelfStop c s
  | .readLane c => Sys2Proof.Machine.execReadLane c s
  | .readShelf c => Sys2Proof.Machine.execReadShelf c s
  | .readCondition c => Sys2Proof.Machine.execReadCondition c s
  | .readFirstUnrepairable c => Sys2Proof.Machine.execReadFirstUnrepairable c s
  | .queryPart c => Sys2Proof.Machine.execQueryPart c s
  | .setNotices c => Sys2Proof.Machine.execSetNotices c s
  | .resetInputLow => Sys2Proof.Machine.execResetInputLow s

end Sys2Proof.Machine
end

