-- ==== Sys2Proof/Machine/Step.lean ====
section
/-! DEFINITION. One step: the command at the front of the queue, run on the queue's rest; an empty queue idles (log entry
1). And how a command, or an arriving cell, enters the queue. -/

namespace Sys2Proof.Machine

/-- The queue of waiting commands replaced. -/
def State.withPending (s : State) (q : List Instr) : State := { s with pending := q }

/-- One step (log entry 1). -/
def step (s : State) : Host.Outcome State Fault Refusal :=
  match s.pending with
  | [] => .next s
  | c :: rest => exec c (s.withPending rest)

/-- The command that a word spells put at the front of the queue; unchanged where it spells none. -/
def State.withFetchWord (s : State) (nbits w : Nat) : State :=
  match decodeTableWord nbits w with
  | none => s
  | some c => s.withPending (c :: s.pending)

/-- The 256 bytes of a cell that arrives on a link enter the queue as the command they are (R170, R171). -/
def State.arrive (s : State) (k : Link) (bytes : List Byte) : State :=
  match arrival k bytes with
  | none => s
  | some c => s.withPending (s.pending ++ [c])

end Sys2Proof.Machine
end

