-- ==== Sys2Proof/Machine/Layout.lean ====
section
/-! DEFINITION. The table records of R183 as a workstation writes them into command payloads, byte for byte: the encoders of
Operands.lean's readers; and the cells a transport and the storage server send (R180, R181). -/

namespace Sys2Proof.Machine

/-! ### Codes -/

/-- Code of an action (R174). -/
def actionCode : Action → Nat
  | .temporal => 0
  | .spatial => 1
  | .keep => 2
  | .unrepairable => 3

/-- Code of ANY, YES or NO (R174). -/
def triCode : Tri → Nat
  | .any => 0
  | .yes => 1
  | .no => 2

/-- Code of a select mode (R174). -/
def selectCode : SelectMode → Nat
  | .evenOnly => 0
  | .oddOnly => 1
  | .sensed => 2

/-- Code of a tension (R180). -/
def tensionCode : Tension → Nat
  | .normal => 0
  | .slack => 1
  | .tight => 2

/-! ### Table records (R183) -/

/-- The 5 bytes of a scratch band; the columns of an absent band are written 0. -/
def bandBytes : Option Columns → List Byte
  | none => [0#8, 0#8, 0#8, 0#8, 0#8]
  | some c => [1#8] ++ leBytes 2 c.x0 ++ leBytes 2 c.x1

/-- The 47 bytes of a profile record (R183). -/
def profileBytes (p : Profile) : List Byte :=
  [one p.k] ++ leBytes 2 p.pitch ++ leBytes 2 (BitVec.ofInt 16 p.frameOffset).toNat ++ leBytes 2 p.width
    ++ leBytes 2 p.height ++ [one p.smoothing] ++ leBytes 2 p.irThreshold ++ leBytes 4 p.damageThreshold
    ++ leBytes 2 p.spatialMax ++ p.bands.flatMap bandBytes ++ [one (actionCode p.defaultAction)]
    ++ leBytes 2 p.baseOffset ++ [one p.baseLines] ++ leBytes 2 p.baseColumns.x0 ++ leBytes 2 p.baseColumns.x1
    ++ [one p.silenceCode]

/-- The 20 bytes of a classifier rule (R183). -/
def ruleBytes (r : ClassifierRule) : List Byte :=
  [flagByte r.valid] ++ leBytes 4 r.areaMin ++ leBytes 4 r.areaMax ++ leBytes 2 r.widthMin ++ leBytes 2 r.widthMax
    ++ leBytes 2 r.heightMin ++ leBytes 2 r.heightMax
    ++ [one (triCode r.persistence), one (triCode r.band), one (actionCode r.action)]

/-- The 12 bytes of a cue entry (R183). -/
def cueBytes (e : CueEntry) : List Byte :=
  leBytes 4 e.start ++ [one e.even, one e.odd, one (selectCode e.mode)] ++ leBytes 2 e.threshold
    ++ leBytes 2 e.hysteresis ++ [one e.interval]

/-- The 14 bytes of a housing entry (R183). -/
def housingEntryBytes (e : HousingEntry) : List Byte :=
  optBytes 4 e.ratioBelow ++ optBytes 2 e.permille ++ optBytes 4 e.lostEpisodes ++ optBytes 4 e.baseShifts

/-- The 46 bytes of a housing table (R183). -/
def housingBytes (t : HousingTable) : List Byte :=
  housingEntryBytes t.e1 ++ housingEntryBytes t.e2 ++ housingEntryBytes t.e3 ++ [one t.m0, one t.m1, one t.m2, one t.m3]

/-- The 11 bytes of a shelf entry as WRITE_SHELF carries it (R183). -/
def shelfEntryBytes (e : ShelfEntry) : List Byte :=
  leBytes 2 e.volume ++ leBytes 6 e.startBlock ++ leBytes 2 e.capacity ++ [one (e.notify.toNat + 2 * e.eol.toNat)]

/-! ### Inbound cells (R180, R181) -/

/-- A LINE cell (R180). -/
def lineWire (l : Lane) (n : LineNumber) (pixels : List Pixel) (last : Bool) : List Byte :=
  cellWire { kind := kindLine, lane := laneByte l, tag := 0#8
             word := n.toNat + 2 ^ 32 * pixels.length + 2 ^ 40 * last.toNat, payload := pixels.flatMap pixelBytes }

/-- A PERF cell (R180). -/
def perfWire (l : Lane) (q : Position) : List Byte :=
  cellWire { kind := kindPerf, lane := laneByte l, tag := 0#8, word := q.toNat, payload := [] }

/-- A TRANSPORT cell (R180); with no splice the position bits are 0. -/
def transportWire (l : Lane) (t : Tension) (splice : Option Position) : List Byte :=
  cellWire { kind := kindTransport, lane := laneByte l, tag := 0#8
             word := (splice.map BitVec.toNat).getD 0 + 2 ^ 40 * splice.isSome.toNat + 2 ^ 48 * tensionCode t
             payload := [] }

/-- A STORE_ACK cell (R181). -/
def ackWire (lane : Byte) (n : OfferNumber) (result : Byte) : List Byte :=
  cellWire { kind := kindStoreAck, lane := lane, tag := 0#8, word := n.toNat + 2 ^ 16 * result.toNat, payload := [] }

end Sys2Proof.Machine
end

