-- ==== Sys2Proof/Safety.lean ====
section
/-! DEFINITION. What counts as a sound state, in the terms claims use: the laws the chapters state of the part (R26, R50,
R103, R132, R137, R139, R141, R159, R167, R172, R176, R18), and the shapes statements about commands share. -/

namespace Sys2Proof.Machine

/-! ### Commands and replies -/

/-- A COMMAND cell for lane `l` arrives with command credit granted (R171, R172, R179). -/
abbrev Taken (c : CommandCell) (l : Lane) (s : State) : Prop := commandCredit s = true ∧ c.lane = laneByte l

/-- A state with one more REPLY cell at the end of its reply queue (R171). -/
def withReply (code : Byte) (c : CommandCell) (reason : Option Reason) (data : List Byte) (s : State) : State :=
  { s with archive := { s.archive with replies := s.archive.replies ++
      [{ code := code, lane := c.lane, tag := c.tag, reason := reason, data := data }] } }

/-- The code and the cell of a COMMAND cell that reaches the Archive Port (R171, R174); none for the other events, and for
an UNKNOWN_COMMAND whose code is in the table. -/
def cellOf : Instr → Option (Byte × CommandCell)
  | .beginReel c => some (0x01#8, c)
  | .endReel c => some (0x02#8, c)
  | .abortReel c => some (0x03#8, c)
  | .resetLane c => some (0x04#8, c)
  | .loadProfile c => some (0x10#8, c)
  | .writeRules c => some (0x11#8, c)
  | .writeBank c => some (0x12#8, c)
  | .writeCues c => some (0x13#8, c)
  | .commitCues c => some (0x14#8, c)
  | .cancelCues c => some (0x15#8, c)
  | .writeHousing c => some (0x16#8, c)
  | .setAlarm c => some (0x20#8, c)
  | .ackAlarm c => some (0x21#8, c)
  | .setPaceMarks c => some (0x22#8, c)
  | .writeShelf c => some (0x30#8, c)
  | .shelfConfig c => some (0x31#8, c)
  | .shelfStart c => some (0x32#8, c)
  | .shelfPause c => some (0x33#8, c)
  | .shelfResume c => some (0x34#8, c)
  | .shelfStop c => some (0x35#8, c)
  | .readLane c => some (0x40#8, c)
  | .readShelf c => some (0x41#8, c)
  | .readCondition c => some (0x42#8, c)
  | .readFirstUnrepairable c => some (0x43#8, c)
  | .queryPart c => some (0x44#8, c)
  | .setNotices c => some (0x45#8, c)
  | .unknownCommand code c => if codeDefined code then none else some (code, c)
  | .powerOnReset _ | .archiveLinkReset | .archiveLinkUp | .intakeLinkReset _ | .intakeLinkUp _ | .cellCheckDrop _ _
  | .lineCell _ _ _ _ | .perfCell _ _ | .transportCell _ _ _ | .storeAck _ _ _ | .silenceExpiry _
  | .ackTimeoutExpiry _ _ | .detectionEnd | .repairEnd | .gradingEnd | .archiveCellSent _ | .paceCellSent _
  | .commandOverrun _ _ | .resetInputLow => none

/-- A command code of the table that acts on a lane: every one but WRITE_BANK, WRITE_HOUSING and QUERY_PART (R171). -/
def actsOnLane (code : Byte) : Bool := codeDefined code && !([0x12, 0x16, 0x44].contains code.toNat)

/-- The payload length of a command whose length is checked before all but the lane (R6, R107, R157, R164, R171, R183). -/
def lengthFirst (code : Byte) : Option Nat :=
  match code.toNat with
  | 0x01 => some 9
  | 0x02 => some 0
  | 0x03 => some 0
  | 0x04 => some 0
  | 0x14 => some 0
  | 0x15 => some 0
  | 0x16 => some 46
  | 0x20 => some 3
  | 0x21 => some 1
  | 0x22 => some 2
  | 0x32 => some 0
  | 0x33 => some 0
  | 0x34 => some 0
  | 0x35 => some 0
  | 0x40 => some 0
  | 0x41 => some 2
  | 0x42 => some 0
  | 0x43 => some 0
  | 0x44 => some 0
  | 0x45 => some 1
  | _ => none

/-- The two states agree on every table and setting the workstation loads, on the reset input, and on the queue: what no
engine, timer, pin of an engine or storage event writes. -/
def SettingsKept (s t : State) : Prop :=
  t.part = s.part ∧ t.profile = s.profile ∧ t.rules = s.rules ∧ t.banks = s.banks ∧ t.housing = s.housing
    ∧ t.mask = s.mask ∧ t.pending = s.pending

/-- The two states agree on the links and on what was last sent over them. -/
def LinksKept (s t : State) : Prop :=
  t.archive.up = s.archive.up ∧ t.archive.replies = s.archive.replies ∧ t.archive.lastCell = s.archive.lastCell
    ∧ t.archive.checkErrors = s.archive.checkErrors ∧ t.archive.malformed = s.archive.malformed
    ∧ t.archive.overruns = s.archive.overruns ∧ ∀ l, (t.intake.get l).up = (s.intake.get l).up

/-! ### Occupancy (R62) -/

/-- The table of R62: the level after a held count. -/
def LevelAfter (o : Occupancy) (held : Nat) (after : Level) : Prop :=
  match o.level with
  | .normal => (o.hold ≤ held → after = .hold) ∧ (o.slow ≤ held → held < o.hold → after = .slow)
      ∧ (held < o.slow → held < o.hold → after = .normal)
  | .slow => (o.hold ≤ held → after = .hold) ∧ (held + 2 ≤ o.slow → held < o.hold → after = .normal)
      ∧ (o.slow ≤ held + 1 → held < o.hold → after = .slow)
  | .hold => (held + 2 ≤ o.slow → after = .normal) ∧ (o.slow ≤ held + 1 → held + 2 ≤ o.hold → after = .slow)
      ∧ (o.hold ≤ held + 1 → o.slow ≤ held + 1 → after = .hold)

/-! ### The Frame Store (R46, R50, R62) -/

/-- "The slots held by lane A, the slots held by lane B and the free slots always add up to 24, and neither lane holds more
than 16"; and the quota keeps each lane's shortfall free (R50). Each lane's occupancy level is the one R62 gives for its held
count, its marks in their ranges (R62, R63). -/
def SlotLaw (s : State) : Prop :=
  s.slots.length = 24 ∧ heldCount .a s + heldCount .b s + freeCount s = 24 ∧ heldCount .a s ≤ 16 ∧ heldCount .b s ≤ 16
    ∧ shortfall .a s + shortfall .b s ≤ freeCount s
    ∧ ∀ l, 2 ≤ (s.occupancy.get l).slow ∧ (s.occupancy.get l).slow ≤ (s.occupancy.get l).hold ∧ (s.occupancy.get l).hold ≤ 16
      ∧ LevelAfter (s.occupancy.get l) (heldCount l s) (s.occupancy.get l).level

/-! ### The strip buffer (R25, R26) -/

/-- The strip's lines are consecutive, the newest first, at most 8192 (R26). -/
def consecutive : List StripLine → Prop
  | [] => True
  | [_] => True
  | x :: y :: rest => y.number + 1 = x.number ∧ consecutive (y :: rest)

/-- A lane's strip: at most 8192 lines; in a pass, they are consecutive and the newest is the last line completed; and the
line in assembly is not the last one completed (R23, R25, R26). In IDLE nothing reads the strip (R8). -/
def StripLaw (l : Lane) (s : State) : Prop :=
  (s.reg.get l).strip.length ≤ 8192
    ∧ ((s.lane.get l).state ≠ .idle → consecutive (s.reg.get l).strip
        ∧ ∀ x ∈ (s.reg.get l).strip.head?, (s.intake.get l).lastLine = some x.number)
    ∧ ∀ a ∈ (s.intake.get l).assembly, (s.intake.get l).lastLine ≠ some a.number

/-- Line `a` of a lane in a pass has been completed (R23 to R26): the strip holds it as its newest line, black from the last
pixel received on, and below it the missing lines, black and marked filled; truncated and dropout lines are counted while
the condition record is OPEN. -/
def LineStored (l : Lane) (a : Assembly) (truncated : Bool) (s t : State) : Prop :=
  let w := (s.profile.get l).width
  let black : Pixel := { r := 0, g := 0, b := 0, ir := 0 }
  let missing := match (s.intake.get l).lastLine with
    | none => 0
    | some p => min ((a.number - p).toNat - 1) 8192
  let filled := (List.range missing).map fun i =>
    ({ number := a.number - BitVec.ofNat 32 (i + 1), pixels := List.replicate w black, filled := true } : StripLine)
  let line : StripLine :=
    { number := a.number, pixels := a.pixels ++ List.replicate (w - a.pixels.length) black, filled := false }
  (t.reg.get l).strip = ((line :: filled) ++ (s.reg.get l).strip).take 8192
    ∧ (t.intake.get l).lastLine = some a.number
    ∧ ((s.cond.get l).condition = .opened → (s.cond.get l).record.truncated ≤ 4294967295 →
        (s.cond.get l).record.dropout ≤ 4294967295 →
        (t.cond.get l).record.truncated = min 4294967295 ((s.cond.get l).record.truncated + truncated.toNat)
          ∧ (t.cond.get l).record.dropout = min 4294967295 ((s.cond.get l).record.dropout + missing))

/-! ### Alarms, pacing, pauses (R132, R139, R141) -/

/-- The lane's pace level is the highest of the four items of R132. -/
def PaceLaw (l : Lane) (s : State) : Prop := (s.alarms.get l).pace = paceLevelOf l s

/-- The LINK and ALARM pause sources follow their causes (R139). -/
def CauseLaw (l : Lane) (s : State) : Prop :=
  (s.shelf.get l).pauseLink = !s.archive.up ∧ (s.shelf.get l).pauseAlarm = (responsesInForce l s).shelfPause

/-- The shelving state agrees with the pause sources (R141): RUNNING means none is set, PAUSING and PAUSED that one is,
PAUSING that a frame is in transmission. -/
def PauseLaw (u : ShelfUnit) : Prop :=
  (u.state = .running → isPaused u = false) ∧ (u.state = .pausing → isPaused u = true)
    ∧ (u.state = .paused → isPaused u = true) ∧ (u.state = .pausing → (transmitting u).isSome)

/-! ### Shelf entries (R137, R143, R145) -/

/-- An entry's places add up (R137): READY, its written count and free places are its next place; OPEN, with the offers of
the lane beside them. -/
def placesAddUp (offers : Nat) (e : ShelfEntry) : Prop :=
  (e.status = .ready → e.written + e.freePlaces.length = e.nextPlace)
    ∧ (e.status = .opened → e.written + offers + e.freePlaces.length = e.nextPlace)

/-- The laws of a lane's shelf list and offers (R137, R139, R143, R145). -/
structure ShelfLaw (u : ShelfUnit) : Prop where
  /-- 32 entries, the current index among them. -/
  size : u.entries.length = 32 ∧ u.current < 32
  /-- Written count plus remaining count is the capacity (R137). -/
  counts : ∀ e ∈ u.entries, e.written + e.remaining = e.capacity
  /-- Places add up (R137). -/
  places : ∀ e ∈ u.entries, placesAddUp (laneOffers u).length e
  /-- At most one entry is OPEN, the one at the current index, and none in STOPPED (R137, R143). -/
  opened : ∀ i < 32, (entryAt u i).status = .opened → i = u.current ∧ u.state ≠ .stopped
  /-- Every offer belongs to the entry at the current index; there are at most 4 (R139). -/
  offers : (laneOffers u).length ≤ 4 ∧ ∀ o ∈ laneOffers u, o.entry = u.current
  /-- With offers, that entry is OPEN or FAILED and has room for them, and shelving is not STOPPED (R143, R145). -/
  room : laneOffers u ≠ [] → ((entryAt u u.current).status = .opened ∨ (entryAt u u.current).status = .failed)
    ∧ (entryAt u u.current).written + (laneOffers u).length ≤ (entryAt u u.current).capacity ∧ u.state ≠ .stopped

/-- The close notice of a FAILED entry whose awaited offers an archive link reset withdraws (R151, R155); none otherwise. -/
def closedAtReset (l : Lane) (s : State) : List NoticeCell :=
  let e := entryAt (s.shelf.get l) (s.shelf.get l).current
  if failedAwaiting (s.shelf.get l) then
    [{ lane := l, notice := .entryClosed (s.shelf.get l).current .failed e.written e.remaining e.firstFailed }]
  else []

/-! ### Queues (R36, R167, R172, R176) -/

/-- The queues stay within their sizes: 8 replies (R172), 16 notices (R176); and of each lane at most one CONDITION cell
waits whose sending has not begun, with at most one begun, at the head (R167). -/
def QueueLaw (s : State) : Prop :=
  s.archive.replies.length ≤ 8 ∧ s.archive.notices.length ≤ 16
    ∧ (∀ l, s.condQueue.countP (unsentCell l) ≤ 1) ∧ ∀ c ∈ s.condQueue.tail, c.begun = false

/-! ### Tables (R76, R101, R105) -/

/-- The curve of a channel of a bank: R 0, G 1, B 2 (R102, R174). -/
def curveOf (channel : Nat) (b : Bank) : List CurveEntry :=
  match channel with
  | 0 => b.r
  | 1 => b.g
  | _ => b.b

/-- Every table has its size: 16 rules of a lane (R76), 8 banks of three curves of 257 entries (R101), 64 positions of a
cue list (R105), 32 shelf entries of a lane (R137). -/
def TableLaw (s : State) : Prop :=
  s.banks.length = 8 ∧ (∀ b ∈ s.banks, ∀ channel, (curveOf channel b).length = 257)
    ∧ ∀ l, (s.rules.get l).length = 16 ∧ (s.cues.get l).active.entries.length = 64
      ∧ (s.cues.get l).shadow.entries.length = 64 ∧ (s.shelf.get l).entries.length = 32

/-- The start frame at position `i` of cue entries is above the one before it (R107). -/
def cueAscends (es : List CueEntry) (i : Nat) : Prop :=
  ∀ p e, 0 < i → es[i - 1]? = some p → es[i]? = some e → p.start < e.start

/-- The banks named at position `i` of cue entries are complete (R107). -/
def cueComplete (s : State) (es : List CueEntry) (i : Nat) : Prop :=
  ∀ e, es[i]? = some e → bankComplete (bankAt s e.even) = true ∧ bankComplete (bankAt s e.odd) = true

/-! ### What an engine may take (R66, R67, R83, R112) -/

/-- Frame `n` of a lane is eligible for detection, the lowest of its lane at DETECTING (R66, log entry 18). -/
def Eligible (l : Lane) (s : State) (n : Nat) : Prop :=
  frameAt l n [.detecting] s = true ∧ (∀ m, frameAt l m [.detecting] s = true → n ≤ m)
    ∧ (n ≠ 0 → frameAt l (n - 1) [.extracting, .detecting] s = false)

/-- Frame `n` of a lane is ready for repair (R83). -/
def Ready (l : Lane) (s : State) (n : Nat) : Prop :=
  frameAt l n [.awaitNeighbour] s = true
    ∧ (∀ m < n, frameAt l m [.extracting, .detecting, .awaitNeighbour, .repairing] s = false)
    ∧ (frameAt l (n + 1) detectedStages s = true ∨ successorNeverComes l n s = true)

/-- Frame `n` of a lane is a candidate for grading (R96, R112). -/
def Candidate (l : Lane) (s : State) (n : Nat) : Prop :=
  frameAt l n [.gradingWait] s = true ∧ (∀ m < n, frameAt l m [.gradingWait, .grading] s = false)
    ∧ successorSettled l n s = true

/-- An arbiter takes frame `n` of lane `l` (R67, R85, R113): the other lane offers none, or was served last, or none was and
the entry of `n` stands before the other lane's in the order of waiting. -/
def GoesFirst (l : Lane) (n : Nat) (lastServed : Option Lane) (order : List FrameRef) (other : Nat → Prop) : Prop :=
  (∀ m, ¬other m) ∨ lastServed = some (otherLane l)
    ∨ lastServed = none ∧ ∃ front back, order = front ++ { lane := l, frame := n } :: back
        ∧ ∀ m, other m → ({ lane := otherLane l, frame := m } : FrameRef) ∉ front

/-! ### Passes (R9, R18, R42, R52, R58, R67, R159) -/

/-- "The record is OPEN exactly while the lane's pass state is not IDLE" (R159). -/
def RecordLaw (l : Lane) (s : State) : Prop := (s.cond.get l).condition = .opened ↔ (s.lane.get l).state ≠ .idle

/-- The number after the last one given out, 16,777,216 once all have been (R9, R11). -/
def nextOf (r : LaneRecord) : Nat := r.nextFrame.getD 16777216

/-- What a lane holds: the numbers given out, its slots, its pending frame and its repair cursor. -/
structure HeldLaw (l : Lane) (s : State) : Prop where
  /-- Numbers run from the first frame to 16,777,215 (R9); before lock none has been given out (R34). -/
  numbers : (s.lane.get l).state ≠ .idle → (s.lane.get l).firstFrame ≤ nextOf (s.lane.get l)
    ∧ (∀ n ∈ (s.lane.get l).nextFrame, n ≤ 16777215)
    ∧ ((s.lane.get l).state = .acquiring → nextOf (s.lane.get l) = (s.lane.get l).firstFrame)
  /-- A held frame is of the current pass, with a number given out in it (R2, R9, R47). -/
  held : ∀ x ∈ laneSlots l s, x.serial = (s.lane.get l).serial ∧ (s.lane.get l).firstFrame ≤ x.frame
    ∧ x.frame < nextOf (s.lane.get l)
  /-- No two slots hold one frame (R51). -/
  apart : (laneSlots l s).Pairwise fun x y => x.frame ≠ y.frame
  /-- So is a pending frame, above every held one (R52, R55). -/
  pending : ∀ p ∈ (s.reg.get l).pendingFrame, p.serial = (s.lane.get l).serial ∧ (s.lane.get l).firstFrame ≤ p.frame
    ∧ p.frame < nextOf (s.lane.get l) ∧ ∀ x ∈ laneSlots l s, x.frame < p.frame
  /-- An IDLE lane holds no frame (R14, R16, R19). -/
  idle : (s.lane.get l).state = .idle → laneSlots l s = [] ∧ (s.reg.get l).pendingFrame = none
  /-- Frames are repaired in frame order: a held one is before GRADING_WAIT exactly above the repair cursor (R58, R83). -/
  cursor : (∀ x ∈ laneSlots l s, x.at beforeGradingWait = true ↔ isRepaired l x.frame s = false)
    ∧ ((s.lane.get l).state ≠ .idle → ∀ c ∈ s.repair.cursor.get l, c < nextOf (s.lane.get l))
    ∧ ∀ p ∈ (s.reg.get l).pendingFrame, isRepaired l p.frame s = false

/-- The frames of a lane and what every block holds of them; with it the balance of R18. -/
structure PassLaw (l : Lane) (s : State) : Prop extends HeldLaw l s where
  /-- The record is OPEN exactly in a pass (R159). -/
  record : RecordLaw l s
  /-- A pending frame stands in the request order, once, and waits only while the lane is granted no slot (R50, R52, R53). -/
  waiting : s.requests.count l = (s.reg.get l).pendingFrame.toList.length
    ∧ ((s.reg.get l).pendingFrame ≠ none → canGrant l s = false)
  /-- A frame is acknowledged exactly at SHELVED_HELD (R49, R149). -/
  acknowledged : ∀ x ∈ laneSlots l s, x.ack = .acknowledged ↔ x.stage = .shelvedHeld
  /-- Each offer's frame is held at OFFERED, and each has its own frame (R145). -/
  offers : (∀ o ∈ laneOffers (s.shelf.get l), frameAt l o.frame [.offered] s = true)
    ∧ (laneOffers (s.shelf.get l)).Pairwise fun o q => o.frame ≠ q.frame
  /-- The frame an engine works on is held at that engine's stage (R67, R85, R113). -/
  engines : (∀ r ∈ s.defect.under, r.lane = l → frameAt l r.frame [.detecting] s = true)
    ∧ (∀ r ∈ s.repair.under, r.lane = l → frameAt l r.frame [.repairing] s = true)
    ∧ ∀ g ∈ s.grading.under, g.ref.lane = l → frameAt l g.ref.frame [.grading] s = true
  /-- A frame in the ready order is held at AWAIT_NEIGHBOUR and stands there once; it, and the frame under repair, is the
  lane's lowest before GRADING_WAIT (R83, R84). -/
  ready : (∀ r ∈ s.repair.readyOrder, r.lane = l → frameAt l r.frame [.awaitNeighbour] s = true)
    ∧ s.repair.readyOrder.Nodup
    ∧ ∀ r, (r ∈ s.repair.readyOrder ∨ r ∈ s.repair.under) → r.lane = l →
      ∀ x ∈ laneSlots l s, x.at beforeGradingWait = true → r.frame ≤ x.frame
  /-- An extraction in flight waits for its last needed line, which is not yet received (R42). -/
  waits : ∀ x ∈ laneSlots l s, x.stage = .extracting →
    stripAnswer (s.reg.get l).strip (lastNeeded (s.profile.get l) x.reg) = .notYet
  /-- An engine is free only while it has no frame of the lane to take; every ready frame stands in the ready order (R67, R84,
  R85, R113). -/
  taken : (s.defect.under = none → ∀ n, ¬Eligible l s n) ∧ (∀ n, Ready l s n → { lane := l, frame := n } ∈ s.repair.readyOrder)
    ∧ (s.repair.under = none → ∀ r ∈ s.repair.readyOrder, r.lane ≠ l) ∧ (s.grading.under = none → ∀ n, ¬Candidate l s n)
  /-- An acknowledged frame whose successor is settled has been freed (R58, R60). -/
  released : ∀ x ∈ laneSlots l s, x.stage = .shelvedHeld → successorSettled l x.frame s = false
  /-- R18: frames numbered = shelved + gapped + discarded + held and not acknowledged; every number given out but a pending
  frame's is numbered. -/
  balance : (s.lane.get l).state ≠ .idle → (s.cond.get l).record.numbered = (s.cond.get l).record.shelved
      + (s.cond.get l).record.gapped + (s.cond.get l).record.discarded + unacknowledged l s
    ∧ (s.cond.get l).record.numbered + (s.reg.get l).pendingFrame.toList.length
      = nextOf (s.lane.get l) - (s.lane.get l).firstFrame
  /-- R18 in the finalised record. -/
  final : (s.cond.get l).condition = .finalised → (s.cond.get l).record.numbered = (s.cond.get l).record.shelved
    + (s.cond.get l).record.gapped + (s.cond.get l).record.discarded

/-- A relock has placed the `k` frame numbers from `n` on as gaps: each unsent, counted as numbered and as gapped while the
record is OPEN, with one discontinuity; the cell has restarted the silence timer (R10, R27, R35). Only the lane's own blocks have
changed. -/
def GapsPlaced (l : Lane) (n k : Nat) (s v : State) : Prop :=
  v = { s with lane := v.lane, intake := v.intake, reg := v.reg, grading := v.grading, shelf := v.shelf, cond := v.cond }
    ∧ (∀ m, m = otherLane l → v.lane.get m = s.lane.get m ∧ v.reg.get m = s.reg.get m ∧ v.shelf.get m = s.shelf.get m
        ∧ v.cond.get m = s.cond.get m)
    ∧ v.intake = s.intake.set l { s.intake.get l with silence := restartedTimer (s.profile.get l).silenceCode }
    ∧ v.shelf.get l = { s.shelf.get l with
        gaps := (List.range' n k).foldl (fun gaps m => insertAscending m gaps) (s.shelf.get l).gaps }
    ∧ ((s.cond.get l).condition = .opened → (s.cond.get l).record.numbered ≤ 16777216 →
        (s.cond.get l).record.gapped ≤ 16777216 →
        (v.cond.get l).record.numbered = min 16777216 ((s.cond.get l).record.numbered + k)
          ∧ (v.cond.get l).record.gapped = min 16777216 ((s.cond.get l).record.gapped + k)
          ∧ (v.cond.get l).record.discontinuities = min 4294967295 ((s.cond.get l).record.discontinuities + 1))

/-! ### Pictures and defect records (R69, R70, R73, R89) -/

/-- Column `x` of line `y` of a picture, where the picture has it. -/
def pixelOf (picture : List (List Pixel)) (y x : Nat) : Option Pixel := (picture[y]?).bind fun samples => samples[x]?

/-- The pixel at column `x` of line `y` is defective (R69). -/
def Defective (threshold : Nat) (picture : List (List Pixel)) (y x : Nat) : Prop :=
  ∃ p, pixelOf picture y x = some p ∧ p.ir.toNat < threshold

/-- Two pixels share an edge: above, below, left or right (R70). -/
def Adjacent (y x v w : Nat) : Prop := (y = v ∧ (x + 1 = w ∨ w + 1 = x)) ∨ (x = w ∧ (y + 1 = v ∨ v + 1 = y))

/-- Two defective pixels are connected by steps between adjacent defective pixels (R70). -/
inductive Connected (threshold : Nat) (picture : List (List Pixel)) (y x : Nat) : Nat → Nat → Prop where
  | here : Defective threshold picture y x → Connected threshold picture y x y x
  | next (v w v' w' : Nat) : Connected threshold picture y x v w → Adjacent v w v' w' →
      Defective threshold picture v' w' → Connected threshold picture y x v' w'

/-- A record holds the pixel at column `x` of line `y`. -/
def holdsPixel (g : List Run) (y x : Nat) : Bool := g.any fun r => r.y = y && r.a ≤ x && x ≤ r.b

/-- The record's box has been rewritten with the R, G and B samples of `f`; IR and every other pixel are left (R89). -/
def BoxRewritten (r : DefectRecord) (f : Nat → Nat → Pixel) (picture after : List (List Pixel)) : Prop :=
  after.map List.length = picture.map List.length
    ∧ ∀ y x p, pixelOf picture y x = some p → pixelOf after y x = some
      (if r.x0 ≤ x ∧ x ≤ r.x1 ∧ r.y0 ≤ y ∧ y ≤ r.y1 then { r := (f y x).r, g := (f y x).g, b := (f y x).b, ir := p.ir } else p)

/-- Two boxes share a column and a line (R73). -/
def BoxesMeet (p q : DefectRecord) : Prop :=
  (∃ x, p.x0 ≤ x ∧ x ≤ p.x1 ∧ q.x0 ≤ x ∧ x ≤ q.x1) ∧ ∃ y, p.y0 ≤ y ∧ y ≤ p.y1 ∧ q.y0 ≤ y ∧ y ≤ q.y1

/-- The box of a record is a box. -/
def BoxHolds (r : DefectRecord) : Prop := r.x0 ≤ r.x1 ∧ r.y0 ≤ r.y1

/-- `v` is the least number of which `f` holds. -/
def LeastOf (f : Nat → Prop) (v : Nat) : Prop := f v ∧ ∀ n, f n → v ≤ n

/-- `v` is the greatest number of which `f` holds. -/
def GreatestOf (f : Nat → Prop) (v : Nat) : Prop := f v ∧ ∀ n, f n → n ≤ v

end Sys2Proof.Machine
end

