-- ==== Sys2Proof/Certificates/Slice0/Obligations.lean ====
section
/-! DEFINITION. The statements for the provers. `s` is the state before, `t` the state after, `u` a state inside the step
from which what follows in it (`settle`) takes its start; `l` is the lane of the event, `c` a COMMAND cell, `p` a profile. -/

open Sys2Proof Sys2Proof.Machine

/-! ### The step -/

/-- The block takes the command at the front of its queue and runs it on the queue's rest; on an empty queue it idles (the
model's choice, log entry 1). -/
def Obligations.StepRunsFrontCommand : Prop :=
  ∀ (s : State) (c : Instr) (rest : List Instr),
    step { s with pending := c :: rest } = exec c { s with pending := rest }
      ∧ step { s with pending := [] } = .next { s with pending := [] }

/-- Every command answers a next state in every state, and none touches the queue of commands (log entry 1). -/
def Obligations.EveryCommandCompletes : Prop :=
  ∀ (c : Instr) (s : State), ∃ t, exec c s = .next t ∧ t.pending = s.pending

/-! ### Power-on and links -/

/-- POWER_ON_RESET (R185): every piece of state at its power-on value as the chapters give it, the links barred where the
input was not low long enough; the queue and the counter of free values stay (log entries 1, 4, 15), and that the last cells
sent are none is the model's own (log entry 5). RESET_INPUT_LOW (R185): every link is DOWN and the timebase does not count;
while the input is low no link comes up, and no cell is sent or taken. The tables stay until the release (log entry 7). -/
def Obligations.PowerOnReset : Prop :=
  (∀ (long : Bool) (s : State), ∃ t, exec (.powerOnReset long) s = .next t
    ∧ t = { State.reset with part := t.part, freeIndex := s.freeIndex, pending := s.pending }
    ∧ t.part = { resetLow := false, linksBarred := !long, timebase := true }
    ∧ t.archive = { up := false, checkErrors := 0, malformed := 0, overruns := 0, replies := [], notices := []
                    lastFrameLane := none, sending := none, lastCell := none }
    ∧ t.slots = List.replicate 24 none ∧ t.requests = [] ∧ t.condQueue = []
    ∧ t.banks.length = 8 ∧ (∀ b ∈ t.banks, ∀ channel, curveOf channel b = List.replicate 257 { value := 0, written := false })
    ∧ t.housing.m0 = 0 ∧ t.housing.m1 = 0 ∧ t.housing.m2 = 0 ∧ t.housing.m3 = 0
    ∧ (∀ e ∈ [t.housing.e1, t.housing.e2, t.housing.e3],
        e = { ratioBelow := none, permille := none, lostEpisodes := none, baseShifts := none })
    ∧ t.defect.under = none ∧ t.defect.lastServed = none ∧ t.defect.waitOrder = []
    ∧ t.repair.under = none ∧ t.repair.lastServed = none ∧ t.repair.readyOrder = []
    ∧ t.grading.under = none ∧ t.grading.lastServed = none ∧ t.grading.stamps = []
    ∧ t.freeIndex = s.freeIndex ∧ t.pending = s.pending
    ∧ ∀ l,
      t.lane.get l = { state := .idle, serial := 0, reel := 0, firstFrame := 0, phase := 0, nextFrame := some 0
                       lastNumbered := none, profileValid := false, noticeOverflow := false }
      ∧ t.intake.get l = { up := false, checkErrors := 0, malformed := 0, assembly := none, lastLine := none
                           silence := .stopped, resumeOwed := false, outOfOrder := 0, pacePlace := none, lastPace := none }
      ∧ t.profile.get l = { k := 0, pitch := 0, frameOffset := 0, width := 0, height := 0, smoothing := 0, irThreshold := 0
                            damageThreshold := 0, spatialMax := 0, bands := [none, none, none, none]
                            defaultAction := .temporal, baseOffset := 0, baseLines := 0
                            baseColumns := { x0 := 0, x1 := 0 }, silenceCode := 0 }
      ∧ t.reg.get l = { strip := [], lastEdge := none, seekRun := [], lockEdges := none, openFrame := none
                        lastClosing := none, prevRatio := none, unsmoothedNext := true, splices := []
                        pendingFrame := none }
      ∧ t.occupancy.get l = { level := .normal, slow := 10, hold := 14 }
      ∧ t.rules.get l = List.replicate 16 ruleOn ∧ ruleOn.valid = false
      ∧ t.defect.lastDetected.get l = none ∧ t.repair.cursor.get l = none ∧ t.repair.firstUnrepairable.get l = none
      ∧ t.grading.side.get l = .even ∧ t.grading.lastGraded.get l = none
      ∧ (t.cues.get l).active.count = 0 ∧ (t.cues.get l).shadow.count = 0 ∧ (t.cues.get l).armed = false
      ∧ (∀ src, alarmRecord l src t = { mode := .follow, pendingMode := none, responses := noResponses, present := false
                                        raised := false, inForce := false, ack := false, raiseCount := 0 })
      ∧ (t.alarms.get l).pace = .hold ∧ (t.alarms.get l).overRun = 0 ∧ (t.alarms.get l).notOverRun = 0
      ∧ (t.alarms.get l).tensionKind = none ∧ (t.alarms.get l).tensionCount = 0 ∧ (t.alarms.get l).tensionFault = false
      ∧ (t.alarms.get l).silence = false ∧ (t.alarms.get l).recentAbandon = false
      ∧ (t.shelf.get l).entries = List.replicate 32 shelfEntryOn ∧ (t.shelf.get l).state = .stopped
      ∧ (t.shelf.get l).reason = .none ∧ (t.shelf.get l).current = 0 ∧ (t.shelf.get l).pauseLink = true
      ∧ (t.shelf.get l).pauseManual = false ∧ (t.shelf.get l).pauseAlarm = false ∧ (t.shelf.get l).blocksPerFrame = 0
      ∧ (t.shelf.get l).trigger = false ∧ (t.shelf.get l).stopIndex = none ∧ (t.shelf.get l).autoRestart = false
      ∧ (t.shelf.get l).ackCode = 0 ∧ (t.shelf.get l).offerCounter = 0 ∧ (t.shelf.get l).sending = none
      ∧ (t.shelf.get l).outstanding = [] ∧ (t.shelf.get l).reoffer = [] ∧ (t.shelf.get l).gaps = []
      ∧ (t.shelf.get l).cursor = none ∧ (t.shelf.get l).timedOut = [] ∧ (t.shelf.get l).stale = 0
      ∧ (t.cond.get l).condition = .cleared ∧ (t.cond.get l).record = recordCleared
      ∧ t.mask.get l = { firstUnrepairable := false, cuesSwapped := false, alarmRaised := false, alarmReleased := false })
  ∧ (∀ s : State, ∃ t, exec .resetInputLow s = .next t
    ∧ t.part = { resetLow := true, linksBarred := s.part.linksBarred, timebase := false }
    ∧ t.archive.up = false ∧ (∀ l, (t.intake.get l).up = false)
    ∧ t.profile = s.profile ∧ t.rules = s.rules ∧ t.banks = s.banks ∧ t.housing = s.housing ∧ t.mask = s.mask
    ∧ exec .archiveLinkUp t = .next t ∧ (∀ l, exec (.intakeLinkUp l) t = .next t)
    ∧ (∀ e, exec (.archiveCellSent e) t = .next t) ∧ (∀ l, exec (.paceCellSent l) t = .next t)
    ∧ (∀ l m px last, exec (.lineCell l m px last) t = .next t) ∧ (∀ l q, exec (.perfCell l q) t = .next t)
    ∧ (∀ l x q, exec (.transportCell l x q) t = .next t) ∧ (∀ b n r, exec (.storeAck b n r) t = .next t)
    ∧ (∀ i code c, cellOf i = some (code, c) → exec i t = .next t))

/-- ARCHIVE_LINK_RESET of a link that is UP (R1, R120, R155, R159, R169): the reply queue emptied, the last frame lane NONE, every
offer of both lanes withdrawn into the re-offer queue, its slot at SHELF_WAIT, NOT_OFFERED and with the re-offer mark, a FRAME_GAP
cell not sent returned to the unsent gaps, the LINK pause source set, the places of the withdrawn offers free places of an OPEN
entry; counts, offer counters, tables, every alarm field, every condition record and all else unchanged. The notice queue holds only
the close notices of FAILED entries, lane A's before lane B's (the model's order of one event's notices, log entry 9). That "stopped
with frames waiting" is noted without a STALL report is the model's choice (log entry 19). -/
def Obligations.ArchiveLinkReset : Prop :=
  ∀ s : State, s.archive.up = true → ∃ t, exec .archiveLinkReset s = .next t
    ∧ t.archive = { s.archive with
        up := false, replies := [], notices := closedAtReset .a s ++ closedAtReset .b s, lastFrameLane := none, sending := none }
    ∧ t = { s with archive := t.archive, slots := t.slots, shelf := t.shelf }
    ∧ ∀ l,
      laneOffers (t.shelf.get l) = [] ∧ (t.shelf.get l).sending = none ∧ (t.shelf.get l).pauseLink = true
      ∧ (t.shelf.get l).reoffer
          = joinReoffer ((laneOffers (s.shelf.get l)).map Offer.frame) (s.shelf.get l).reoffer
      ∧ (PassLaw l s → ∀ o ∈ laneOffers (s.shelf.get l), frameSlot l o.frame t
          = (frameSlot l o.frame s).map (fun x => { x with stage := .shelfWait, ack := .notOffered, reoffer := true }))
      ∧ (∀ n, (∀ o ∈ laneOffers (s.shelf.get l), o.frame ≠ n) → frameSlot l n t = frameSlot l n s)
      ∧ (t.shelf.get l).gaps = (match gapHandedOn (s.shelf.get l) with
          | none => (s.shelf.get l).gaps
          | some n => insertAscending n (s.shelf.get l).gaps)
      ∧ ((t.shelf.get l).state = .paused ∨ (t.shelf.get l).state = .stopped)
      ∧ (t.shelf.get l).offerCounter = (s.shelf.get l).offerCounter
      ∧ (t.shelf.get l).timedOut = (s.shelf.get l).timedOut ∧ (t.shelf.get l).stale = (s.shelf.get l).stale
      ∧ (∀ i, (entryAt (t.shelf.get l) i).written = (entryAt (s.shelf.get l) i).written
          ∧ (entryAt (t.shelf.get l) i).remaining = (entryAt (s.shelf.get l) i).remaining
          ∧ (entryAt (t.shelf.get l) i).firstFailed = (entryAt (s.shelf.get l) i).firstFailed)
      ∧ ((entryAt (s.shelf.get l) (s.shelf.get l).current).status = .opened →
          (entryAt (t.shelf.get l) (s.shelf.get l).current).freePlaces
            = joinReoffer ((laneOffers (s.shelf.get l)).map Offer.place)
                (entryAt (s.shelf.get l) (s.shelf.get l).current).freePlaces)
      ∧ (t.shelf.get l).waitingReported = stoppedWaiting l t

/-- ARCHIVE_LINK_UP with the links free to train (R141, R169, R172): the link is UP, the LINK pause source of both lanes
clears, a PAUSED or PAUSING lane is RUNNING exactly where no other pause source is set, and command credit is granted where
the reply queue has a free place. -/
def Obligations.ArchiveLinkUp : Prop :=
  ∀ s : State, s.part.resetLow = false → s.part.linksBarred = false → s.archive.up = false →
    ∃ t, exec .archiveLinkUp s = .next t
      ∧ t.archive = { s.archive with up := true, notices := t.archive.notices }
      ∧ (commandCredit t = true ↔ s.archive.replies.length < 8)
      ∧ SettingsKept s t ∧ (∀ l, (t.intake.get l).up = (s.intake.get l).up)
      ∧ ∀ l, (t.shelf.get l).pauseLink = false ∧ (t.shelf.get l).pauseManual = (s.shelf.get l).pauseManual
        ∧ ((s.shelf.get l).state = .paused ∨ (s.shelf.get l).state = .pausing →
            ((t.shelf.get l).state = .running ↔ isPaused (t.shelf.get l) = false))
        ∧ ((s.shelf.get l).state = .stopped ∨ (s.shelf.get l).state = .stopping →
            (t.shelf.get l).state = (s.shelf.get l).state)

/-- INTAKE_LINK_RESET of a link that is UP (R28): the line in assembly and a waiting PACE cell dropped, the silence timer
STOPPED, last line number and resume owed kept, nothing else changed. INTAKE_LINK_UP of a link that is DOWN and free to train
(R133): a PACE cell with the lane's current level and causes is placed. PACE_CELL_SENT (R133): the cell in the place is sent,
byte for byte, and the place is empty (output field: the model's own, log entry 5). -/
def Obligations.IntakeLinks : Prop :=
  (∀ (s : State) (l : Lane), (s.intake.get l).up = true →
    exec (.intakeLinkReset l) s = .next { s with intake := s.intake.set l { s.intake.get l with
      up := false, assembly := none, silence := .stopped, pacePlace := none } })
  ∧ (∀ (s : State) (l : Lane), s.part.resetLow = false → s.part.linksBarred = false → (s.intake.get l).up = false →
    exec (.intakeLinkUp l) s = .next { s with intake := s.intake.set l { s.intake.get l with
      up := true
      pacePlace := some { level := (s.alarms.get l).pace, occupancy := (s.occupancy.get l).level
                          sources := paceSources (s.alarms.get l).records, idle := (s.lane.get l).state = .idle } } })
  ∧ ∀ (s : State) (l : Lane) (x : PaceCell), (s.intake.get l).up = true → (s.intake.get l).pacePlace = some x →
    exec (.paceCellSent l) s = .next { s with intake := s.intake.set l { s.intake.get l with
      pacePlace := none, lastPace := some (cellWire (paceCell l x)) } }

/-- CELL_CHECK_DROP on a link that is UP (R170): a cell whose check fails adds 1 to the link's check error count, one of a
kind the link does not carry, too long, a LINE cell of a wrong length or a TRANSPORT cell of an undefined tension adds 1 to its
malformed count; each count is held at 65,535, and nothing else changes. -/
def Obligations.CellCheckDrop : Prop :=
  ∀ (s : State) (bytes : List Byte) (k : Link), bytes.length = 256 → linkUp k s = true →
    (checkHolds bytes = false → exec (.cellCheckDrop k bytes) s = .next (match k with
      | .archive => { s with archive := { s.archive with checkErrors := min 65535 (s.archive.checkErrors + 1) } }
      | .intake l => { s with intake := s.intake.set l { s.intake.get l with
          checkErrors := min 65535 ((s.intake.get l).checkErrors + 1) } }))
    ∧ (checkHolds bytes = true →
        (kindInbound k (byteAt bytes 0) = false ∨ 240 < payloadLength bytes
          ∨ (byteAt bytes 0 = kindLine ∧ payloadLength bytes ≠ 8 * leField bytes 12 1)
          ∨ (byteAt bytes 0 = kindTransport ∧ 2 < leField bytes 14 1)) →
        exec (.cellCheckDrop k bytes) s = .next (match k with
          | .archive => { s with archive := { s.archive with malformed := min 65535 (s.archive.malformed + 1) } }
          | .intake l => { s with intake := s.intake.set l { s.intake.get l with
              malformed := min 65535 ((s.intake.get l).malformed + 1) } }))

/-! ### The outbound arbiter -/

/-- ARCHIVE_CELL_SENT (R154): replies before notices before CONDITION cells; each leaves its queue when it has been sent
whole, and a cell whose sending has only begun stays at the head of its queue. A CONDITION cell so begun is marked (R167). What
was begun can be sent whole later: sending a cell whole is beginning it and then ending it. What was sent is seen in the model's
own output field (log entry 5). -/
def Obligations.ArbiterOrder : Prop :=
  (∀ s : State, s.archive.up = true → s.archive.sending = none →
    (∀ r rest, s.archive.replies = r :: rest →
      exec (.archiveCellSent .whole) s
          = .next { s with archive := { s.archive with replies := rest, lastCell := some (cellWire (replyCell r)) } }
        ∧ exec (.archiveCellSent .begun) s
          = .next { s with archive := { s.archive with sending := some { source := .reply, cell := replyCell r } } })
    ∧ (∀ n rest, s.archive.replies = [] → s.archive.notices = n :: rest →
      exec (.archiveCellSent .whole) s
          = .next { s with archive := { s.archive with notices := rest, lastCell := some (cellWire (noticeCell n)) } }
        ∧ exec (.archiveCellSent .begun) s
          = .next { s with archive := { s.archive with sending := some { source := .notice, cell := noticeCell n } } })
    ∧ (∀ x rest, s.archive.replies = [] → s.archive.notices = [] → s.condQueue = x :: rest →
      exec (.archiveCellSent .whole) s
          = .next { s with archive := { s.archive with lastCell := some (cellWire (conditionCell x)) }, condQueue := rest }
        ∧ exec (.archiveCellSent .begun) s
          = .next { s with archive := { s.archive with sending := some { source := .condition, cell := conditionCell x } }
                           condQueue := { x with begun := true } :: rest }))
  ∧ (∀ s t : State, s.archive.sending = none → exec (.archiveCellSent .begun) s = .next t →
      exec (.archiveCellSent .whole) t = exec (.archiveCellSent .whole) s)
  ∧ (∀ (s : State) (x : Sending), s.archive.sending = some x → exec (.archiveCellSent .begun) s = .next s)

/-- ARCHIVE_CELL_SENT of a frame cell (R146, R147, R154): with the three queues empty, the cell is the lane's next FRAME_HEAD,
FRAME_DATA or FRAME_GAP cell, the lane being the only one with a cell or the one not last served (A with none served); the
last frame lane becomes it; the last FRAME_DATA cell makes the offer outstanding with its ack timer, and a PAUSING lane
PAUSED. A FRAME_HEAD uses one free value (log entry 4), and the cell sent is seen in the model's own output field (log entry
5). A cell begun whose item has been withdrawn since is still sent whole (the model's choice, log entry 16). -/
def Obligations.FrameCellsSent : Prop :=
  (∀ (s : State) (l : Lane), s.archive.up = true → s.archive.sending = none → s.archive.replies = [] →
    s.archive.notices = [] → s.condQueue = [] →
    (frameCell (otherLane l) s = none ∨ s.archive.lastFrameLane = some (otherLane l)
      ∨ (s.archive.lastFrameLane = none ∧ l = .a)) →
    (∀ n, (s.shelf.get l).sending = some (.gap n) →
      exec (.archiveCellSent .whole) s = .next (settle { s with
        archive := { s.archive with lastFrameLane := some l, lastCell := some (cellWire (frameGap l n s)) }
        shelf := s.shelf.set l { s.shelf.get l with sending := none } }))
    ∧ (∀ o x, (s.shelf.get l).sending = some (.frame o 0) → frameSlot l o.frame s = some x →
      frameDataCells (s.profile.get l) ≠ 0 →
      exec (.archiveCellSent .whole) s = .next (settle { s with
        freeIndex := s.freeIndex + 1
        archive := { s.archive with lastFrameLane := some l, lastCell := some (cellWire (frameHead l o x s)) }
        shelf := s.shelf.set l { s.shelf.get l with sending := some (.frame o 1) } }))
    ∧ (∀ o i x, (s.shelf.get l).sending = some (.frame o (i + 1)) → frameSlot l o.frame s = some x →
      i + 1 ≠ frameDataCells (s.profile.get l) →
      exec (.archiveCellSent .whole) s = .next (settle { s with
        archive := { s.archive with lastFrameLane := some l, lastCell := some (cellWire (frameData l o i x)) }
        shelf := s.shelf.set l { s.shelf.get l with sending := some (.frame o (i + 2)) } }))
    ∧ ∀ o i x, (s.shelf.get l).sending = some (.frame o (i + 1)) → frameSlot l o.frame s = some x →
      i + 1 = frameDataCells (s.profile.get l) →
      exec (.archiveCellSent .whole) s = .next (settle { s with
        archive := { s.archive with lastFrameLane := some l, lastCell := some (cellWire (frameData l o i x)) }
        shelf := s.shelf.set l { s.shelf.get l with
          sending := none
          outstanding := (s.shelf.get l).outstanding ++ [{ o with timer := timeoutMs (s.shelf.get l).ackCode }]
          state := if (s.shelf.get l).state = .pausing then .paused else (s.shelf.get l).state } }))
  ∧ ∀ (s : State) (l : Lane) (x : Cell), s.archive.up = true →
    s.archive.sending = some { source := .withdrawn l, cell := x } →
    exec (.archiveCellSent .whole) s = .next { s with archive := { s.archive with
      sending := none, lastCell := some (cellWire x), lastFrameLane := some l } }

/-! ### Command intake -/

/-- A COMMAND cell (R171, R172): with command credit it gets exactly one REPLY cell, at the end of the reply queue, with its
code, lane and tag, and a refused one changes nothing else; without credit on a link that is UP it is dropped and counted,
which is COMMAND_OVERRUN too. A code outside the command table is REFUSED with UNKNOWN_COMMAND. A command that acts on a lane is
REFUSED with BAD_FIELD where its lane byte is neither A nor B, then with BAD_LENGTH where its payload is not of its length, for
every command whose length is checked first. -/
def Obligations.OneReplyPerCommand : Prop :=
  (∀ (i : Instr) (s : State) (code : Byte) (c : CommandCell), cellOf i = some (code, c) →
    (commandCredit s = true → ∃ t r, exec i s = .next t ∧ t.archive.replies = s.archive.replies ++ [r]
        ∧ r.code = code ∧ r.lane = c.lane ∧ r.tag = c.tag
        ∧ (r.reason ≠ none → t = { s with archive := { s.archive with replies := s.archive.replies ++ [r] } }))
      ∧ (s.archive.up = true → 8 ≤ s.archive.replies.length →
        exec i s = .next { s with archive := { s.archive with overruns := min 65535 (s.archive.overruns + 1) } }))
  ∧ (∀ (s : State) (code : Byte) (c : CommandCell), s.archive.up = true → 8 ≤ s.archive.replies.length →
    exec (.commandOverrun code c) s
      = .next { s with archive := { s.archive with overruns := min 65535 (s.archive.overruns + 1) } })
  ∧ (∀ (s : State) (code : Byte) (c : CommandCell), commandCredit s = true → codeDefined code = false →
    exec (.unknownCommand code c) s = .next (withReply code c (some .unknownCommand) [] s))
  ∧ ∀ (i : Instr) (s : State) (code : Byte) (c : CommandCell), cellOf i = some (code, c) → commandCredit s = true →
    (actsOnLane code = true → c.lane ≠ 0#8 → c.lane ≠ 1#8 → exec i s = .next (withReply code c (some .badField) [] s))
    ∧ ∀ n, (actsOnLane code = true → c.lane = 0#8 ∨ c.lane = 1#8) → lengthFirst code = some n → c.payload.length ≠ n →
      exec i s = .next (withReply code c (some .badLength) [] s)

/-! ### Storage -/

/-- STORE_ACK OK that matches an outstanding offer (R148, R149): the offer resolved, the entry's written count up and
remaining count down by 1, the frame acknowledged at SHELVED_HELD, shelved counted while the record is OPEN, the frame out of
the timed-out frames; an OPEN entry whose remaining count reaches 0 is FULL. A STORE_ACK with result OK or FAIL that matches no
outstanding offer is stale: dropped and counted, in the condition record too while it is OPEN; one whose lane or result is not
defined is dropped uncounted (R148). -/
def Obligations.StoreAck : Prop :=
  (∀ (s : State) (l : Lane) (n : OfferNumber) (o : Offer), s.archive.up = true → offerOf l n s = some o →
    o.entry < (s.shelf.get l).entries.length →
    ∃ u, exec (.storeAck (laneByte l) n 1#8) s = .next (settle u)
      ∧ (u.shelf.get l).outstanding = (s.shelf.get l).outstanding.erase o
      ∧ (entryAt (u.shelf.get l) o.entry).written = (entryAt (s.shelf.get l) o.entry).written + 1
      ∧ (entryAt (u.shelf.get l) o.entry).remaining = (entryAt (s.shelf.get l) o.entry).remaining - 1
      ∧ ((entryAt (s.shelf.get l) o.entry).status = .opened → (entryAt (s.shelf.get l) o.entry).remaining = 1 →
          (entryAt (u.shelf.get l) o.entry).status = .full)
      ∧ (u.shelf.get l).timedOut = (s.shelf.get l).timedOut.erase o.frame
      ∧ frameSlot l o.frame u
          = (frameSlot l o.frame s).map (fun x => { x with ack := .acknowledged, stage := .shelvedHeld })
      ∧ ((s.cond.get l).condition = .opened →
          (u.cond.get l).record.shelved = min 16777216 ((s.cond.get l).record.shelved + 1))
      ∧ SettingsKept s u ∧ LinksKept s u)
  ∧ (∀ (s : State) (l : Lane) (n : OfferNumber) (result : Byte), s.archive.up = true → offerOf l n s = none →
    (result = 1#8 ∨ result = 2#8) →
    exec (.storeAck (laneByte l) n result) s = .next { s with
      shelf := s.shelf.set l { s.shelf.get l with stale := min 65535 ((s.shelf.get l).stale + 1) }
      cond := s.cond.set l (if (s.cond.get l).condition = .opened then
          { s.cond.get l with record := { (s.cond.get l).record with
              staleAcks := min 4294967295 ((s.cond.get l).record.staleAcks + 1) } }
        else s.cond.get l) })
  ∧ ∀ (s : State) (lane : Byte) (n : OfferNumber) (result : Byte),
    ((lane ≠ 0#8 ∧ lane ≠ 1#8) ∨ (result ≠ 1#8 ∧ result ≠ 2#8)) → exec (.storeAck lane n result) s = .next s

/-- A STORE_ACK FAIL, or the expiry of a running ack timer, of an offer of the current entry (R150): an OPEN entry becomes
FAILED with the frame as its first failed frame, a FAILED one keeps its own; this offer and every offer of a higher frame are
withdrawn into the re-offer queue, their slots at SHELF_WAIT with the re-offer mark; one failure is counted while the record is
OPEN; a timeout adds the frame to the timed-out frames, a FAIL leaves them. -/
def Obligations.OfferFailure : Prop :=
  ∀ (s : State) (l : Lane) (n : OfferNumber) (o : Offer) (timeout : Bool), offerOf l n s = some o →
    o.entry = (s.shelf.get l).current → (timeout = false → s.archive.up = true) → (timeout = true → o.timer.isSome = true) →
    ∃ u, exec (if timeout then .ackTimeoutExpiry l n else .storeAck (laneByte l) n 2#8) s = .next (settle u)
      ∧ (u.shelf.get l).outstanding
          = (s.shelf.get l).outstanding.filter (fun x => !(x.number = o.number || o.frame < x.frame))
      ∧ (u.shelf.get l).reoffer = joinReoffer
          (((laneOffers (s.shelf.get l)).filter fun x => x.number = o.number || o.frame < x.frame).map Offer.frame)
          (s.shelf.get l).reoffer
      ∧ (∀ x ∈ laneOffers (s.shelf.get l), (x.number = o.number ∨ o.frame < x.frame) →
          frameSlot l x.frame u = (frameSlot l x.frame s).map
            (fun y => { y with stage := .shelfWait, ack := .notOffered, reoffer := true }))
      ∧ ((entryAt (s.shelf.get l) o.entry).status = .opened →
          (entryAt (u.shelf.get l) o.entry).status = .failed
            ∧ (entryAt (u.shelf.get l) o.entry).firstFailed = some o.frame)
      ∧ ((entryAt (s.shelf.get l) o.entry).status = .failed →
          (entryAt (u.shelf.get l) o.entry).status = .failed
            ∧ (entryAt (u.shelf.get l) o.entry).firstFailed = (entryAt (s.shelf.get l) o.entry).firstFailed)
      ∧ (∀ i, (entryAt (u.shelf.get l) i).written = (entryAt (s.shelf.get l) i).written
          ∧ (entryAt (u.shelf.get l) i).remaining = (entryAt (s.shelf.get l) i).remaining)
      ∧ ((s.cond.get l).condition = .opened →
          (u.cond.get l).record.shelfFailures = min 4294967295 ((s.cond.get l).record.shelfFailures + 1))
      ∧ (timeout = true → o.frame ∈ (u.shelf.get l).timedOut)
      ∧ (timeout = false → (u.shelf.get l).timedOut = (s.shelf.get l).timedOut)
      ∧ SettingsKept s u ∧ LinksKept s u

/-! ### Passes -/

/-- BEGIN_REEL (R6, R7): refused at the first check that fails; taken, it opens the pass in every block that keeps per-pass
state for the lane, and leaves the rest, the other lane among it, as it was. -/
def Obligations.BeginReel : Prop :=
  ∀ (s : State) (l : Lane) (c : CommandCell), Taken c l s →
    (c.payload.length ≠ 9 → exec (.beginReel c) s = .next (withReply 0x01#8 c (some .badLength) [] s))
    ∧ (c.payload.length = 9 → (s.lane.get l).state ≠ .idle →
        exec (.beginReel c) s = .next (withReply 0x01#8 c (some .laneState) [] s))
    ∧ (c.payload.length = 9 → (s.lane.get l).state = .idle → (s.lane.get l).profileValid = false →
        exec (.beginReel c) s = .next (withReply 0x01#8 c (some .profileInvalid) [] s))
    ∧ (c.payload.length = 9 → (s.lane.get l).state = .idle → (s.lane.get l).profileValid = true →
        (16777215 < leField c.payload 4 4 ∨ (s.profile.get l).k ≤ leField c.payload 8 1) →
        exec (.beginReel c) s = .next (withReply 0x01#8 c (some .badField) [] s))
    ∧ (c.payload.length = 9 → (s.lane.get l).state = .idle → (s.lane.get l).profileValid = true →
        leField c.payload 4 4 ≤ 16777215 → leField c.payload 8 1 < (s.profile.get l).k →
        ∃ t, exec (.beginReel c) s = .next t
          ∧ t = withReply 0x01#8 c none [] { s with
              lane := s.lane.set l { s.lane.get l with
                serial := (s.lane.get l).serial + 1, reel := BitVec.ofNat 32 (leField c.payload 0 4)
                firstFrame := leField c.payload 4 4, phase := leField c.payload 8 1
                nextFrame := some (leField c.payload 4 4), lastNumbered := none, state := .acquiring }
              reg := s.reg.set l { strip := [], lastEdge := none, seekRun := [], lockEdges := none, openFrame := none
                                   lastClosing := none, prevRatio := none, unsmoothedNext := true, splices := []
                                   pendingFrame := none }
              intake := t.intake
              defect := { s.defect with lastDetected := s.defect.lastDetected.set l none }
              repair := { s.repair with cursor := s.repair.cursor.set l none }
              grading := { s.grading with side := s.grading.side.set l .even
                                          lastGraded := s.grading.lastGraded.set l none }
              cues := s.cues.set l { s.cues.get l with armed := false }
              shelf := s.shelf.set l { s.shelf.get l with
                cursor := some (leField c.payload 4 4), reoffer := [], gaps := [], timedOut := [] }
              cond := s.cond.set l { condition := .opened, record := { recordCleared with
                serial := (s.lane.get l).serial + 1, reel := BitVec.ofNat 32 (leField c.payload 0 4)
                firstFrame := leField c.payload 4 4 } }
              alarms := s.alarms.set l { s.alarms.get l with pace := paceLevelOf l t } }
          ∧ t.intake.get (otherLane l) = s.intake.get (otherLane l)
          ∧ t.intake.get l = { s.intake.get l with
              assembly := none, lastLine := none, outOfOrder := 0, pacePlace := (t.intake.get l).pacePlace }
          ∧ ((s.intake.get l).up = true → paceLevelOf l t ≠ (s.alarms.get l).pace →
              (t.intake.get l).pacePlace = some (paceCellOf l t)))

/-- END_REEL (R12, R15, R165): refused in IDLE; in ACQUIRING the pass is finalised and the lane IDLE with pace level HOLD, an
armed commit swapped; in RUNNING and LOST the open frame is dropped and the lane DRAINING; in DRAINING nothing changes. -/
def Obligations.EndReel : Prop :=
  ∀ (s : State) (l : Lane) (c : CommandCell), Taken c l s → c.payload.length = 0 →
    ((s.lane.get l).state = .idle → exec (.endReel c) s = .next (withReply 0x02#8 c (some .laneState) [] s))
    ∧ ((s.lane.get l).state = .draining → exec (.endReel c) s = .next (withReply 0x02#8 c none [] s))
    ∧ ((s.lane.get l).state = .running ∨ (s.lane.get l).state = .lost →
        exec (.endReel c) s = .next (withReply 0x02#8 c none [] (settle { s with
          lane := s.lane.set l { s.lane.get l with state := .draining }
          reg := s.reg.set l { s.reg.get l with openFrame := none } })))
    ∧ ((s.lane.get l).state = .acquiring → ∃ t, exec (.endReel c) s = .next (withReply 0x02#8 c none [] t)
        ∧ t.lane.get l = { s.lane.get l with state := .idle, noticeOverflow := (t.lane.get l).noticeOverflow }
        ∧ (t.alarms.get l).pace = .hold
        ∧ t.cond.get l = { condition := .finalised, record := finalRecord s.housing false (s.cond.get l).record }
        ∧ t.condQueue = placeCondition l (finalRecord s.housing false (s.cond.get l).record) s.condQueue
        ∧ t.cues.get l = (if (s.cues.get l).armed then
            { active := (s.cues.get l).shadow, shadow := (s.cues.get l).active, armed := false } else s.cues.get l)
        ∧ t = { s with lane := t.lane, alarms := t.alarms, intake := t.intake, cond := t.cond, cues := t.cues
                       condQueue := t.condQueue, archive := { s.archive with notices := t.archive.notices } }
        ∧ t.lane.get (otherLane l) = s.lane.get (otherLane l) ∧ t.alarms.get (otherLane l) = s.alarms.get (otherLane l)
        ∧ t.cond.get (otherLane l) = s.cond.get (otherLane l) ∧ t.cues.get (otherLane l) = s.cues.get (otherLane l)
        ∧ t.intake.get (otherLane l) = s.intake.get (otherLane l))

/-- ABORT_REEL (R15, R16, R17, R109, R156, R165): in IDLE nothing changes; in a pass the lane is IDLE at pace level HOLD, with no
slot, no pending frame, no offer, no waiting gap, no work in an engine; an armed commit is swapped; the discards and the placement
of a pending frame are counted (its number raises the lane record's last frame numbered: the model's choice, log entry 22) and the
record finalised with ABORTED, its cell queued. A PAUSING lane becomes PAUSED, a STOPPING one STOPPED with COMMAND and current index
0 (the index and the trigger of a STOPPING lane: the model's choice, log entry 21). -/
def Obligations.AbortReel : Prop :=
  ∀ (s : State) (l : Lane) (c : CommandCell), Taken c l s → c.payload.length = 0 →
    ((s.lane.get l).state = .idle → exec (.abortReel c) s = .next (withReply 0x03#8 c none [] s))
    ∧ ((s.lane.get l).state ≠ .idle → ∃ u, exec (.abortReel c) s = .next (withReply 0x03#8 c none [] (settle u))
        ∧ u.lane.get l = { s.lane.get l with
            state := .idle, noticeOverflow := (u.lane.get l).noticeOverflow
            lastNumbered := (match (s.reg.get l).pendingFrame with
              | none => (s.lane.get l).lastNumbered
              | some p => raiseLast p.frame (s.lane.get l).lastNumbered) }
        ∧ laneSlots l u = [] ∧ l ∉ u.requests ∧ (u.alarms.get l).pace = .hold
        ∧ u.cues.get l = (if (s.cues.get l).armed then
            { active := (s.cues.get l).shadow, shadow := (s.cues.get l).active, armed := false } else s.cues.get l)
        ∧ ((s.shelf.get l).state = .stopping →
            (u.shelf.get l).state = .stopped ∧ (u.shelf.get l).reason = .command ∧ (u.shelf.get l).current = 0)
        ∧ (failedAwaiting (s.shelf.get l) = false →
            ((s.shelf.get l).state = .pausing → (u.shelf.get l).state = .paused)
            ∧ ((s.shelf.get l).state ≠ .pausing → (s.shelf.get l).state ≠ .stopping →
                (u.shelf.get l).state = (s.shelf.get l).state ∧ (u.shelf.get l).current = (s.shelf.get l).current
                ∧ (u.shelf.get l).trigger = (s.shelf.get l).trigger))
        ∧ u.reg.get l = { strip := [], lastEdge := none, seekRun := [], lockEdges := none, openFrame := none
                          lastClosing := none, prevRatio := (s.reg.get l).prevRatio
                          unsmoothedNext := (s.reg.get l).unsmoothedNext, splices := [], pendingFrame := none }
        ∧ (u.shelf.get l).sending = none ∧ (u.shelf.get l).outstanding = [] ∧ (u.shelf.get l).reoffer = []
        ∧ (u.shelf.get l).gaps = [] ∧ (u.shelf.get l).cursor = none ∧ (u.shelf.get l).timedOut = []
        ∧ (u.shelf.get l).offerCounter = (s.shelf.get l).offerCounter ∧ (u.shelf.get l).stale = (s.shelf.get l).stale
        ∧ (∀ r, u.defect.under = some r → r.lane ≠ l) ∧ (∀ r, u.repair.under = some r → r.lane ≠ l)
        ∧ (∀ g, u.grading.under = some g → g.ref.lane ≠ l) ∧ (∀ e ∈ u.grading.stamps, e.lane ≠ l)
        ∧ (u.cond.get l).condition = .finalised ∧ (u.cond.get l).record.aborted = true
        ∧ ((s.cond.get l).condition = .opened →
            (u.cond.get l).record.discarded = min 16777216 (min 16777216 ((s.cond.get l).record.discarded
                + unacknowledged l s) + (s.reg.get l).pendingFrame.toList.length)
            ∧ (u.cond.get l).record.numbered = (match (s.reg.get l).pendingFrame with
                | none => (s.cond.get l).record.numbered
                | some _ => min 16777216 ((s.cond.get l).record.numbered + 1))
            ∧ (u.cond.get l).record.shelved = (s.cond.get l).record.shelved
            ∧ (u.cond.get l).record.gapped = (s.cond.get l).record.gapped)
        ∧ u.condQueue = placeCondition l (u.cond.get l).record s.condQueue
        ∧ SettingsKept s u ∧ LinksKept s u)

/-- RESET_LANE (R19, R61, R120, R121, R123, R124, R137, R139): taken in every pass state; the lane's state in every block as the
rule's table gives, alarm filter states cleared, the occupancy level re-evaluated to NORMAL with marks in their range, its tables,
settings, pace marks, offer counter and notice mask kept, no CONDITION cell placed. -/
def Obligations.ResetLane : Prop :=
  ∀ (s : State) (l : Lane) (c : CommandCell), Taken c l s → c.payload.length = 0 →
    ∃ u, exec (.resetLane c) s = .next (withReply 0x04#8 c none [] (settle u))
      ∧ u.lane.get l = { state := .idle, serial := (s.lane.get l).serial, reel := 0, firstFrame := 0, phase := 0
                         nextFrame := some 0, lastNumbered := none, profileValid := (s.lane.get l).profileValid
                         noticeOverflow := false }
      ∧ u.reg.get l = { strip := [], lastEdge := none, seekRun := [], lockEdges := none, openFrame := none
                        lastClosing := none, prevRatio := none, unsmoothedNext := true, splices := []
                        pendingFrame := none }
      ∧ u.intake.get l = { s.intake.get l with
          assembly := none, lastLine := none, silence := .stopped, resumeOwed := false, outOfOrder := 0
          pacePlace := (u.intake.get l).pacePlace }
      ∧ laneSlots l u = [] ∧ l ∉ u.requests
      ∧ (∀ r, u.defect.under = some r → r.lane ≠ l) ∧ u.defect.lastDetected.get l = none
      ∧ (∀ r, u.repair.under = some r → r.lane ≠ l) ∧ u.repair.cursor.get l = none
      ∧ u.repair.firstUnrepairable.get l = none
      ∧ (∀ g, u.grading.under = some g → g.ref.lane ≠ l) ∧ (∀ e ∈ u.grading.stamps, e.lane ≠ l)
      ∧ u.grading.side.get l = .even ∧ u.grading.lastGraded.get l = none
      ∧ u.cues.get l = { s.cues.get l with armed := false }
      ∧ (u.occupancy.get l).slow = (s.occupancy.get l).slow ∧ (u.occupancy.get l).hold = (s.occupancy.get l).hold
      ∧ (∀ src, alarmRecord l src u = { alarmRecord l src s with
          present := false, raised := false, inForce := false, ack := false, raiseCount := 0 })
      ∧ (2 ≤ (s.occupancy.get l).slow → 2 ≤ (s.occupancy.get l).hold → (u.occupancy.get l).level = .normal)
      ∧ u.alarms.get l = { records := (u.alarms.get l).records, pace := .hold, overRun := 0, notOverRun := 0
                           tensionKind := none, tensionCount := 0, tensionFault := false, silence := false
                           recentAbandon := false }
      ∧ u.shelf.get l = { s.shelf.get l with
          entries := (s.shelf.get l).entries.map (fun e => if e.status = .empty then e else { e with
            status := .ready, written := 0, remaining := e.capacity, firstFailed := none, nextPlace := 0, freePlaces := [] })
          state := .stopped, reason := .none, current := 0, trigger := false, pauseManual := false, pauseAlarm := false
          sending := none, outstanding := [], reoffer := [], gaps := [], cursor := none, timedOut := [], stale := 0
          waitingReported := false }
      ∧ u.cond.get l = { condition := .cleared, record := recordCleared }
      ∧ u.condQueue = s.condQueue ∧ SettingsKept s u ∧ LinksKept s u

/-! ### Tables and settings -/

/-- LOAD_PROFILE (R4): refused outside IDLE, then on a wrong length, then on a field out of range or a reach above the limit;
otherwise every field replaced together and the profile valid. Nothing else changes. WRITE_RULES (R77): its checks in their order;
otherwise each carried rule replaces the rule at its index, and every other rule, of this lane and of the other, stays. -/
def Obligations.ProfileAndRules : Prop :=
  (∀ (s : State) (l : Lane) (c : CommandCell), Taken c l s →
    ((s.lane.get l).state ≠ .idle → exec (.loadProfile c) s = .next (withReply 0x10#8 c (some .laneState) [] s))
    ∧ ((s.lane.get l).state = .idle → c.payload.length ≠ 47 →
        exec (.loadProfile c) s = .next (withReply 0x10#8 c (some .badLength) [] s))
    ∧ ((s.lane.get l).state = .idle → c.payload.length = 47 → readProfile c.payload = none →
        exec (.loadProfile c) s = .next (withReply 0x10#8 c (some .badField) [] s))
    ∧ ∀ p, (s.lane.get l).state = .idle → c.payload.length = 47 → readProfile c.payload = some p →
        profileInRange p = true
        ∧ exec (.loadProfile c) s = .next (withReply 0x10#8 c none [] { s with
            profile := s.profile.set l p, lane := s.lane.set l { s.lane.get l with profileValid := true } }))
  ∧ (∀ (s : State) (l : Lane) (c : CommandCell), Taken c l s → TableLaw s →
    ((s.lane.get l).state ≠ .idle → exec (.writeRules c) s = .next (withReply 0x11#8 c (some .laneState) [] s))
    ∧ ∀ first count, leField c.payload 0 1 = first → leField c.payload 1 1 = count → (s.lane.get l).state = .idle →
      ((count = 0 ∨ 8 < count ∨ c.payload.length ≠ 2 + 20 * count) →
        exec (.writeRules c) s = .next (withReply 0x11#8 c (some .badLength) [] s))
      ∧ (1 ≤ count → count ≤ 8 → c.payload.length = 2 + 20 * count →
        ((16 < first + count ∨ ∃ i < count, readRule (c.payload.drop (2 + 20 * i)) = none) →
          exec (.writeRules c) s = .next (withReply 0x11#8 c (some .badField) [] s))
        ∧ (first + count ≤ 16 → (∀ i < count, readRule (c.payload.drop (2 + 20 * i)) ≠ none) →
          ∃ t, exec (.writeRules c) s = .next t ∧ t = withReply 0x11#8 c none [] { s with rules := t.rules }
            ∧ t.rules.get (otherLane l) = s.rules.get (otherLane l)
            ∧ ∀ j, (t.rules.get l)[j]? = if first ≤ j ∧ j < first + count
                then readRule (c.payload.drop (2 + 20 * (j - first))) else (s.rules.get l)[j]?)))

/-- WRITE_BANK (R102, R103): whatever its lane byte, its checks in their order, a live bank among them; otherwise each carried
value replaces the entry at its index with its mark set, every other entry of every bank stays, and the reply says whether the
bank is complete. -/
def Obligations.WriteBank : Prop :=
  ∀ (s : State) (c : CommandCell) (bank channel first count : Nat), commandCredit s = true → TableLaw s →
    leField c.payload 0 1 = bank → leField c.payload 1 1 = channel → leField c.payload 2 2 = first →
    leField c.payload 4 1 = count →
    ((count = 0 ∨ 64 < count ∨ c.payload.length ≠ 5 + 2 * count) →
      exec (.writeBank c) s = .next (withReply 0x12#8 c (some .badLength) [] s))
    ∧ (1 ≤ count → count ≤ 64 → c.payload.length = 5 + 2 * count →
      ((7 < bank ∨ 2 < channel ∨ 257 < first + count) →
        exec (.writeBank c) s = .next (withReply 0x12#8 c (some .badField) [] s))
      ∧ (bank ≤ 7 → channel ≤ 2 → first + count ≤ 257 → bankLive bank s = true →
        exec (.writeBank c) s = .next (withReply 0x12#8 c (some .bankLive) [] s))
      ∧ (bank ≤ 7 → channel ≤ 2 → first + count ≤ 257 → bankLive bank s = false →
        ∃ t, exec (.writeBank c) s = .next t
          ∧ t = withReply 0x12#8 c none [flagByte (bankComplete (bankAt t bank))] { s with banks := t.banks }
          ∧ ∀ n, n < 8 → ∀ k, k < 3 → ∀ j, (curveOf k (bankAt t n))[j]? =
              if n = bank ∧ k = channel ∧ first ≤ j ∧ j < first + count
              then some { value := BitVec.ofNat 16 (leField c.payload (5 + 2 * (j - first)) 2), written := true }
              else (curveOf k (bankAt s n))[j]?))

/-- WRITE_CUES (R106): its checks in their order, an armed commit first; otherwise each carried entry replaces the shadow entry
at its position and the shadow count the old one; the active list and every other position stay. That a first position of 64
with no entries is taken is the model's reading (log entry 14). -/
def Obligations.WriteCues : Prop :=
  ∀ (s : State) (l : Lane) (c : CommandCell) (first count shadow : Nat), Taken c l s → TableLaw s →
    leField c.payload 0 1 = first → leField c.payload 1 1 = count → leField c.payload 2 1 = shadow →
    ((s.cues.get l).armed = true → exec (.writeCues c) s = .next (withReply 0x13#8 c (some .cuesArmed) [] s))
    ∧ ((s.cues.get l).armed = false → (16 < count ∨ c.payload.length ≠ 3 + 12 * count) →
        exec (.writeCues c) s = .next (withReply 0x13#8 c (some .badLength) [] s))
    ∧ ((s.cues.get l).armed = false → count ≤ 16 → c.payload.length = 3 + 12 * count →
      ((64 < first + count ∨ 64 < shadow ∨ ∃ i < count, readCue (c.payload.drop (3 + 12 * i)) = none) →
        exec (.writeCues c) s = .next (withReply 0x13#8 c (some .badField) [] s))
      ∧ (first + count ≤ 64 → shadow ≤ 64 → (∀ i < count, readCue (c.payload.drop (3 + 12 * i)) ≠ none) →
        ∃ t, exec (.writeCues c) s = .next t ∧ t = withReply 0x13#8 c none [] { s with cues := t.cues }
          ∧ t.cues.get (otherLane l) = s.cues.get (otherLane l)
          ∧ (t.cues.get l).active = (s.cues.get l).active ∧ (t.cues.get l).armed = false
          ∧ (t.cues.get l).shadow.count = shadow
          ∧ ∀ j, (t.cues.get l).shadow.entries[j]? = if first ≤ j ∧ j < first + count
              then readCue (c.payload.drop (3 + 12 * (j - first))) else (s.cues.get l).shadow.entries[j]?))

/-- COMMIT_CUES (R107, R109): DONE without change while a commit is armed; a shadow list whose start frames strictly ascend and
whose banks are complete is swapped at once in IDLE, with its notice where enabled, and armed in a pass; otherwise REFUSED with
the lowest failing position and its cause, ORDER before INCOMPLETE_BANK. CANCEL_CUES (R108) clears the arm and leaves the
lists. -/
def Obligations.CommitAndCancelCues : Prop :=
  ∀ (s : State) (l : Lane) (c : CommandCell) (es : List CueEntry), Taken c l s → c.payload.length = 0 →
    cuesInUse (s.cues.get l).shadow = es →
    ((s.cues.get l).armed = true → exec (.commitCues c) s = .next (withReply 0x14#8 c none [] s))
    ∧ ((s.cues.get l).armed = false → (∀ i, cueAscends es i ∧ cueComplete s es i) → (s.lane.get l).state ≠ .idle →
        exec (.commitCues c) s
          = .next (withReply 0x14#8 c none [] { s with cues := s.cues.set l { s.cues.get l with armed := true } }))
    ∧ ((s.cues.get l).armed = false → (∀ i, cueAscends es i ∧ cueComplete s es i) → (s.lane.get l).state = .idle →
        ∀ t, t = { s with cues := s.cues.set l { active := (s.cues.get l).shadow, shadow := (s.cues.get l).active
                                                 armed := false } } →
          exec (.commitCues c) s = .next (withReply 0x14#8 c none []
            (if (s.mask.get l).cuesSwapped then notify l (.cuesSwapped (s.cues.get l).shadow.count none) t else t)))
    ∧ (∀ i, (s.cues.get l).armed = false → (∀ j < i, cueAscends es j ∧ cueComplete s es j) → ¬cueAscends es i →
        exec (.commitCues c) s = .next (withReply 0x14#8 c (some .cuesInvalid) [one i, 0#8] s))
    ∧ (∀ i, (s.cues.get l).armed = false → (∀ j < i, cueAscends es j ∧ cueComplete s es j) → cueAscends es i →
        ¬cueComplete s es i →
        exec (.commitCues c) s = .next (withReply 0x14#8 c (some .cuesInvalid) [one i, 1#8] s))
    ∧ exec (.cancelCues c) s
        = .next (withReply 0x15#8 c none [] { s with cues := s.cues.set l { s.cues.get l with armed := false } })

/-- WRITE_HOUSING (R164): whatever its lane byte, refused on a wrong length, then on a field out of range; otherwise the whole
table replaced, and nothing else. SET_NOTICES (R175): REFUSED with BAD_FIELD where a bit from 4 to 7 is set, otherwise the lane's
four flags replaced, and nothing else. -/
def Obligations.HousingAndNotices : Prop :=
  (∀ (s : State) (c : CommandCell), commandCredit s = true →
    (c.payload.length ≠ 46 → exec (.writeHousing c) s = .next (withReply 0x16#8 c (some .badLength) [] s))
    ∧ (c.payload.length = 46 → readHousing c.payload = none →
        exec (.writeHousing c) s = .next (withReply 0x16#8 c (some .badField) [] s))
    ∧ ∀ h, c.payload.length = 46 → readHousing c.payload = some h →
        (∀ m ∈ [h.m0, h.m1, h.m2, h.m3], 1 ≤ m ∧ m ≤ 240)
        ∧ exec (.writeHousing c) s = .next (withReply 0x16#8 c none [] { s with housing := h }))
  ∧ ∀ (s : State) (l : Lane) (c : CommandCell) (m : Nat), Taken c l s → c.payload.length = 1 → leField c.payload 0 1 = m →
    (16 ≤ m → exec (.setNotices c) s = .next (withReply 0x45#8 c (some .badField) [] s))
    ∧ ∀ f : NoticeMask, m < 16 → f.firstUnrepairable = m.testBit 0 → f.cuesSwapped = m.testBit 1 →
        f.alarmRaised = m.testBit 2 → f.alarmReleased = m.testBit 3 →
        exec (.setNotices c) s = .next (withReply 0x45#8 c none [] { s with mask := s.mask.set l f })

/-- SET_PACE_MARKS (R62, R63, R133): REFUSED outside the ranges; otherwise both marks replaced and the occupancy level
re-evaluated by the table of R62 with the new marks, from the level it had; the lane's pace level follows, and a change of it
places a PACE cell on a link that is UP. Nothing else changes. -/
def Obligations.SetPaceMarks : Prop :=
  ∀ (s : State) (l : Lane) (c : CommandCell) (slow hold held : Nat), Taken c l s → c.payload.length = 2 →
    leField c.payload 0 1 = slow → leField c.payload 1 1 = hold → heldCount l s = held →
    ((slow < 2 ∨ 16 < slow ∨ hold < slow ∨ 16 < hold) →
      exec (.setPaceMarks c) s = .next (withReply 0x22#8 c (some .badField) [] s))
    ∧ (2 ≤ slow → slow ≤ 16 → slow ≤ hold → hold ≤ 16 → ∃ t, exec (.setPaceMarks c) s = .next t
        ∧ t = withReply 0x22#8 c none [] { s with occupancy := t.occupancy, alarms := t.alarms, intake := t.intake }
        ∧ (t.occupancy.get l).slow = slow ∧ (t.occupancy.get l).hold = hold
        ∧ LevelAfter { s.occupancy.get l with slow := slow, hold := hold } held (t.occupancy.get l).level
        ∧ t.alarms.get l = { s.alarms.get l with pace := (t.alarms.get l).pace }
        ∧ (PaceLaw l s → (t.alarms.get l).pace = paceLevelOf l t)
        ∧ t.occupancy.get (otherLane l) = s.occupancy.get (otherLane l)
        ∧ t.alarms.get (otherLane l) = s.alarms.get (otherLane l)
        ∧ t.intake.get (otherLane l) = s.intake.get (otherLane l)
        ∧ t.intake.get l = { s.intake.get l with pacePlace := (t.intake.get l).pacePlace }
        ∧ ((s.intake.get l).up = true → (t.alarms.get l).pace ≠ (s.alarms.get l).pace →
            (t.intake.get l).pacePlace = some (paceCellOf l t))
        ∧ (((s.intake.get l).up = false ∨ (t.alarms.get l).pace = (s.alarms.get l).pace) →
            (t.intake.get l).pacePlace = (s.intake.get l).pacePlace))

/-! ### Alarms -/

/-- SET_ALARM with defined values (R130, R131): the response set replaces the old at once, the mode waits as the pending mode
(NONE where it equals the record's); present, raised, in force, ack received, the raise count and every other record stay. For
a record in force the responses in force are recomputed: pace level and ALARM pause source follow them. An undefined source,
mode or response is REFUSED with BAD_FIELD. -/
def Obligations.SetAlarm : Prop :=
  ∀ (s : State) (l : Lane) (c : CommandCell), Taken c l s → c.payload.length = 3 →
    ((sourceField (leField c.payload 0 1) = none ∨ modeField (leField c.payload 1 1) = none
        ∨ responsesField (leField c.payload 2 1) = none) →
      exec (.setAlarm c) s = .next (withReply 0x20#8 c (some .badField) [] s))
    ∧ ∀ src m rs, sourceField (leField c.payload 0 1) = some src → modeField (leField c.payload 1 1) = some m →
      responsesField (leField c.payload 2 1) = some rs →
      ∃ t, exec (.setAlarm c) s = .next t
        ∧ alarmRecord l src t = { alarmRecord l src s with
            responses := rs, pendingMode := if m = (alarmRecord l src s).mode then none else some m }
        ∧ (∀ x, x ≠ src → alarmRecord l x t = alarmRecord l x s)
        ∧ t.alarms.get (otherLane l) = s.alarms.get (otherLane l)
        ∧ t.archive = { s.archive with replies := s.archive.replies ++
            [{ code := 0x20#8, lane := c.lane, tag := c.tag, reason := none, data := [] }] }
        ∧ ((alarmRecord l src s).inForce = false →
            t = withReply 0x20#8 c none [] { s with alarms := t.alarms } ∧ (t.alarms.get l).pace = (s.alarms.get l).pace)
        ∧ ((alarmRecord l src s).inForce = true →
            (PaceLaw l s → (t.alarms.get l).pace = paceLevelOf l t)
            ∧ (t.shelf.get l).pauseAlarm = (responsesInForce l t).shelfPause)
        ∧ SettingsKept s t ∧ t.lane = s.lane ∧ t.reg = s.reg ∧ t.cond = s.cond
        ∧ t.shelf.get (otherLane l) = s.shelf.get (otherLane l)

/-- ACK_ALARM (R127, R128, R129): ack received is set for each named record that is raised, and the reply says for which it was
recorded; in RUNNING nothing else changes. Outside RUNNING the arrival is an evaluation point: every record takes its pending
mode, and each raised one that meets its mode's condition is released. An undefined source is REFUSED with BAD_FIELD. -/
def Obligations.AckAlarm : Prop :=
  ∀ (s : State) (l : Lane) (c : CommandCell), Taken c l s → c.payload.length = 1 →
    (ackSources (leField c.payload 0 1) = none → exec (.ackAlarm c) s = .next (withReply 0x21#8 c (some .badField) [] s))
    ∧ ∀ named, ackSources (leField c.payload 0 1) = some named → ∃ t, exec (.ackAlarm c) s = .next t
      ∧ t.archive.replies = s.archive.replies ++ [{ code := 0x21#8, lane := c.lane, tag := c.tag, reason := none
                                                    data := [one (recordedAcks l named s)] }]
      ∧ t.alarms.get (otherLane l) = s.alarms.get (otherLane l) ∧ SettingsKept s t ∧ t.reg = s.reg ∧ t.cond = s.cond
      ∧ ((s.lane.get l).state = .running → (∀ src, alarmRecord l src t =
            if src ∈ named then { alarmRecord l src s with ack := (alarmRecord l src s).ack || (alarmRecord l src s).raised }
            else alarmRecord l src s)
          ∧ t = withReply 0x21#8 c none [one (recordedAcks l named s)] { s with alarms := t.alarms })
      ∧ ((s.lane.get l).state ≠ .running → ∀ src, ∀ r : AlarmRecord,
          r = { alarmRecord l src s with
            mode := (alarmRecord l src s).pendingMode.getD (alarmRecord l src s).mode, pendingMode := none
            ack := (alarmRecord l src s).ack || (decide (src ∈ named) && (alarmRecord l src s).raised) } →
          ((r.raised = true ∧ (match r.mode with
              | .follow => r.present = false
              | .ackThenClear => r.ack = true ∧ r.present = false
              | .ackRelease => r.ack = true)) →
            alarmRecord l src t = { r with raised := false, inForce := false, ack := false })
          ∧ (¬(r.raised = true ∧ (match r.mode with
              | .follow => r.present = false
              | .ackThenClear => r.ack = true ∧ r.present = false
              | .ackRelease => r.ack = true)) → alarmRecord l src t = r))

/-! ### Shelf commands -/

/-- WRITE_SHELF (R138): its checks in their order, an entry in use last; otherwise each carried entry replaces the one at its
index, READY with nothing written, and every other entry stays. -/
def Obligations.WriteShelf : Prop :=
  ∀ (s : State) (l : Lane) (c : CommandCell) (first count : Nat), Taken c l s → TableLaw s →
    leField c.payload 0 1 = first → leField c.payload 1 1 = count →
    ((count = 0 ∨ 8 < count ∨ c.payload.length ≠ 2 + 11 * count) →
      exec (.writeShelf c) s = .next (withReply 0x30#8 c (some .badLength) [] s))
    ∧ (1 ≤ count → count ≤ 8 → c.payload.length = 2 + 11 * count →
      ((32 < first + count ∨ ∃ i < count, readShelfEntry (c.payload.drop (2 + 11 * i)) = none) →
        exec (.writeShelf c) s = .next (withReply 0x30#8 c (some .badField) [] s))
      ∧ (first + count ≤ 32 → (∀ i < count, readShelfEntry (c.payload.drop (2 + 11 * i)) ≠ none) →
        ((∃ i < count, entryInUse (s.shelf.get l) (first + i) = true) →
          exec (.writeShelf c) s = .next (withReply 0x30#8 c (some .entryOpen) [] s))
        ∧ ((∀ i < count, entryInUse (s.shelf.get l) (first + i) = false) →
          ∃ t, exec (.writeShelf c) s = .next t
            ∧ t = withReply 0x30#8 c none [] { s with shelf := t.shelf }
            ∧ t.shelf.get (otherLane l) = s.shelf.get (otherLane l)
            ∧ t.shelf.get l = { s.shelf.get l with entries := (t.shelf.get l).entries }
            ∧ (∀ e ∈ (t.shelf.get l).entries.drop first |>.take count, e.status = .ready ∧ e.written = 0
                ∧ e.remaining = e.capacity ∧ e.firstFailed = none ∧ e.nextPlace = 0 ∧ e.freePlaces = [])
            ∧ ∀ j, (t.shelf.get l).entries[j]? = if first ≤ j ∧ j < first + count
                then readShelfEntry (c.payload.drop (2 + 11 * (j - first))) else (s.shelf.get l).entries[j]?)))

/-- SHELF_CONFIG (R140): refused outside STOPPED, then on a wrong length, then on a field out of range; otherwise the four
settings replaced together, and nothing else. -/
def Obligations.ShelfConfig : Prop :=
  ∀ (s : State) (l : Lane) (c : CommandCell) (blocks stop auto code : Nat), Taken c l s →
    leField c.payload 0 2 = blocks → leField c.payload 2 1 = stop → leField c.payload 3 1 = auto →
    leField c.payload 4 1 = code →
    ((s.shelf.get l).state ≠ .stopped → exec (.shelfConfig c) s = .next (withReply 0x31#8 c (some .laneState) [] s))
    ∧ ((s.shelf.get l).state = .stopped → c.payload.length ≠ 5 →
        exec (.shelfConfig c) s = .next (withReply 0x31#8 c (some .badLength) [] s))
    ∧ ((s.shelf.get l).state = .stopped → c.payload.length = 5 →
      ((blocks = 0 ∨ (32 ≤ stop ∧ stop ≠ 255) ∨ 2 ≤ auto ∨ 9 ≤ code) →
        exec (.shelfConfig c) s = .next (withReply 0x31#8 c (some .badField) [] s))
      ∧ (blocks ≠ 0 → (stop < 32 ∨ stop = 255) → auto < 2 → code < 9 →
        exec (.shelfConfig c) s = .next (withReply 0x31#8 c none [] { s with shelf := s.shelf.set l { s.shelf.get l with
          blocksPerFrame := blocks, stopIndex := if stop = 255 then none else some stop, autoRestart := decide (auto = 1)
          ackCode := code } })))

/-- SHELF_START (R142), by the shelving state at its arrival; the DONE reply carries shelving state, stop reason and current
index after the command. -/
def Obligations.ShelfStart : Prop :=
  ∀ (s : State) (l : Lane) (c : CommandCell) (v : ShelfUnit), Taken c l s → c.payload.length = 0 → s.shelf.get l = v →
    (v.state = .stopped → v.blocksPerFrame = 0 →
      exec (.shelfStart c) s = .next (withReply 0x32#8 c (some .notConfigured) [] s))
    ∧ (v.state = .stopped → v.blocksPerFrame ≠ 0 → (entryAt v v.current).status = .ready →
      ∀ t, t = settle { s with shelf := s.shelf.set l { v with
          entries := v.entries.modify v.current (fun e => { e with status := .opened }),
          state := if v.pauseManual || v.pauseAlarm || v.pauseLink then .paused else .running, reason := .none } } →
        exec (.shelfStart c) s = .next (withReply 0x32#8 c none (startData (t.shelf.get l)) t))
    ∧ (v.state = .stopped → v.blocksPerFrame ≠ 0 → (entryAt v v.current).status ≠ .ready →
      ∀ t, t = settle { s with shelf := s.shelf.set l { v with
          state := .stopped, reason := .entryNotReady, trigger := false } } →
        exec (.shelfStart c) s = .next (withReply 0x32#8 c none (startData (t.shelf.get l)) t))
    ∧ ((v.state = .running ∨ v.state = .pausing ∨ v.state = .paused) →
      exec (.shelfStart c) s = .next (withReply 0x32#8 c none
        [one (shelvingCode v.state), one (stopCode v.reason), one v.current]
        { s with shelf := s.shelf.set l { v with trigger := true } }))
    ∧ (v.state = .stopping → exec (.shelfStart c) s = .next (withReply 0x32#8 c (some .laneState) [] s))

/-- SHELF_PAUSE and SHELF_RESUME (R141): the MANUAL source set or cleared and the shelving state following; a lane that
becomes, or is, RUNNING after a resume hands on its next item if it can. In STOPPED and STOPPING the source is recorded only.
SHELF_STOP (R143), by the shelving state; "stopped with frames waiting" is then tested (R153). -/
def Obligations.ShelfPauseResumeStop : Prop :=
  (∀ (s : State) (l : Lane) (c : CommandCell) (v : ShelfUnit), Taken c l s → c.payload.length = 0 → s.shelf.get l = v →
    PauseLaw v →
    exec (.shelfPause c) s = .next (withReply 0x33#8 c none [] { s with shelf := s.shelf.set l { v with
        pauseManual := true
        state := if v.state = .running then (if (transmitting v).isSome then .pausing else .paused) else v.state } })
    ∧ ((v.state = .paused ∨ v.state = .pausing) → v.pauseAlarm = false → v.pauseLink = false →
        exec (.shelfResume c) s = .next (withReply 0x34#8 c none [] (handOn l { s with shelf := s.shelf.set l { v with
          pauseManual := false, state := .running } })))
    ∧ ((v.state = .paused ∨ v.state = .pausing) → (v.pauseAlarm = true ∨ v.pauseLink = true) →
        exec (.shelfResume c) s
          = .next (withReply 0x34#8 c none [] { s with shelf := s.shelf.set l { v with pauseManual := false } }))
    ∧ ((v.state = .stopped ∨ v.state = .stopping) →
        exec (.shelfResume c) s
          = .next (withReply 0x34#8 c none [] { s with shelf := s.shelf.set l { v with pauseManual := false } }))
    ∧ (v.state = .running → exec (.shelfResume c) s = .next (withReply 0x34#8 c none [] (handOn l s))))
  ∧ ∀ (s : State) (l : Lane) (c : CommandCell) (v : ShelfUnit), Taken c l s → c.payload.length = 0 → s.shelf.get l = v →
    (v.state = .stopped → exec (.shelfStop c) s = .next (withReply 0x35#8 c none [] (reportWaiting l { s with
      shelf := s.shelf.set l { v with reason := .command, current := 0 } })))
    ∧ (v.state = .stopping → exec (.shelfStop c) s = .next (withReply 0x35#8 c none [] (reportWaiting l s)))
    ∧ ((v.state = .running ∨ v.state = .pausing ∨ v.state = .paused) →
      (laneOffers v ≠ [] → exec (.shelfStop c) s = .next (withReply 0x35#8 c none [] (reportWaiting l { s with
        shelf := s.shelf.set l { v with state := .stopping } })))
      ∧ (laneOffers v = [] → exec (.shelfStop c) s = .next (withReply 0x35#8 c none [] (reportWaiting l { s with
        shelf := s.shelf.set l { v with
          entries := v.entries.modify v.current (fun e => if e.status = .opened then { e with status := .ready } else e),
          state := .stopped, reason := .command, current := 0, trigger := false } }))))

/-! ### Reads -/

/-- READ_LANE (R21, R177): DONE with 124 bytes, laid out as R184 says, of which these fields are checked here; only the notice
overflow is changed, cleared after it was returned. READ_SHELF (R157), READ_CONDITION (R168), READ_FIRST_UNREPAIRABLE (R98) and
QUERY_PART (R178): DONE with data of the length R184 gives; nothing changes but the first-unrepairable register, which becomes
NONE when read. -/
def Obligations.Reads : Prop :=
  (∀ (s : State) (l : Lane) (c : CommandCell), Taken c l s → c.payload.length = 0 →
    ∃ data, exec (.readLane c) s = .next (withReply 0x40#8 c none data
        { s with lane := s.lane.set l { s.lane.get l with noticeOverflow := false } })
      ∧ data.length = 124
      ∧ data[0]? = some (one (passCode (s.lane.get l).state))
      ∧ leField data 1 2 = (s.lane.get l).serial.toNat ∧ leField data 3 4 = (s.lane.get l).reel.toNat
      ∧ data[21]? = some (flagByte (s.lane.get l).noticeOverflow)
      ∧ leField data 28 2 = (s.intake.get l).outOfOrder % 65536
      ∧ data[30]? = some (one (heldCount l s)) ∧ data[31]? = some (one (freeCount s))
      ∧ data[74]? = some (one (sideCode (s.grading.side.get l)))
      ∧ data[121]? = some (one (responsesCode (responsesInForce l s)))
      ∧ data[122]? = some (one (levelCode (s.alarms.get l).pace))
      ∧ data[123]? = some (one (levelCode (s.occupancy.get l).level)))
  ∧ ∀ (s : State) (l : Lane) (c : CommandCell), Taken c l s →
    (∀ first count, c.payload.length = 2 → leField c.payload 0 1 = first → leField c.payload 1 1 = count →
      ((count = 0 ∨ 4 < count ∨ 32 < first + count) →
        exec (.readShelf c) s = .next (withReply 0x41#8 c (some .badField) [] s))
      ∧ (1 ≤ count → count ≤ 4 → first + count ≤ 32 → ∃ data, exec (.readShelf c) s = .next (withReply 0x41#8 c none data s)
        ∧ data.length = 79 + 31 * count
        ∧ data[0]? = some (one (shelvingCode (s.shelf.get l).state))
        ∧ leField data 10 2 = (s.shelf.get l).offerCounter.toNat ∧ leField data 77 2 = (s.shelf.get l).stale % 65536
        ∧ leField data 79 2 = (entryAt (s.shelf.get l) first).volume % 65536
        ∧ leField data 91 2 = (entryAt (s.shelf.get l) first).written % 65536))
    ∧ (c.payload.length = 0 →
      (∃ data, exec (.readCondition c) s = .next (withReply 0x42#8 c none data s) ∧ data.length = 150
        ∧ data[0]? = some (one (conditionCode (s.cond.get l).condition))
        ∧ leField data 17 4 = (s.cond.get l).record.numbered % 4294967296)
      ∧ (∃ data, exec (.readFirstUnrepairable c) s = .next (withReply 0x43#8 c none data
            { s with repair := { s.repair with firstUnrepairable := s.repair.firstUnrepairable.set l none } })
          ∧ data = (match s.repair.firstUnrepairable.get l with
            | none => leBytes 2 0 ++ [0xFF#8, 0xFF#8, 0xFF#8, 0xFF#8]
            | some x => leBytes 2 x.serial.toNat ++ leBytes 4 x.frame))
      ∧ (∃ data, exec (.queryPart c) s = .next (withReply 0x44#8 c none data s) ∧ data.length = 33
        ∧ data.take 16 = [3#8, 2#8, 24#8, 16#8, 0x00#8, 0x20#8, 8#8, 0x01#8, 0x01#8, 64#8, 16#8, 32#8, 32#8, 4#8, 8#8, 16#8]
        ∧ data[26]? = some (flagByte s.archive.up) ∧ leField data 31 2 = s.archive.overruns % 65536))

/-! ### Line assembly -/

/-- A LINE cell that completes no line (R23, R27), resume owed clear: it extends the line in assembly, or begins a line ahead
of the last one, keeping at most 29 pixels and none at column W or beyond; out of order it is dropped and counted. Every one
restarts the silence timer (under code 0: log entry 6); nothing else changes. -/
def Obligations.LineCellAssembles : Prop :=
  ∀ (s : State) (l : Lane) (m : LineNumber) (px : List Pixel) (last : Bool) (w : Nat) (p : IntakePort),
    (s.intake.get l).up = true → (s.intake.get l).resumeOwed = false → (s.profile.get l).width = w →
    p = { s.intake.get l with silence := restartedTimer (s.profile.get l).silenceCode } →
    (∀ a, p.assembly = some a → m = a.number →
      exec (.lineCell l m px false) s = .next { s with intake := s.intake.set l { p with
        assembly := some { a with pixels := (a.pixels ++ px.take 29).take w } } })
    ∧ (p.assembly = none → (∀ x, p.lastLine = some x → ahead m x = true) →
      exec (.lineCell l m px false) s = .next { s with intake := s.intake.set l { p with
        assembly := some { number := m, pixels := (px.take 29).take w } } })
    ∧ (∀ a, p.assembly = some a → m ≠ a.number → ahead m a.number = false →
      exec (.lineCell l m px last) s = .next { s with intake := s.intake.set l { p with
        outOfOrder := min 65535 (p.outOfOrder + 1) } })
    ∧ ∀ x, p.assembly = none → p.lastLine = some x → ahead m x = false →
      exec (.lineCell l m px last) s = .next { s with intake := s.intake.set l { p with
        outOfOrder := min 65535 (p.outOfOrder + 1) } }

/-- A LINE cell that completes a line (R23 to R26). In IDLE, resume owed clear, the line is discarded and only the port
changes. In ACQUIRING, RUNNING and LOST a cell with LAST stores its line, short ones truncated; a cell ahead of the line in
assembly stores that line truncated and begins its own. Each restarts the silence timer (under code 0: log entry 6). -/
def Obligations.LineCellCompletes : Prop :=
  ∀ (s : State) (l : Lane) (m : LineNumber) (px : List Pixel) (w : Nat) (a : Assembly), (s.intake.get l).up = true →
    (s.profile.get l).width = w →
    ((s.intake.get l).assembly = some a ∧ m = a.number
      ∨ (s.intake.get l).assembly = none ∧ a = { number := m, pixels := [] }
        ∧ ∀ x, (s.intake.get l).lastLine = some x → ahead m x = true) →
    ((s.lane.get l).state = .idle → (s.cond.get l).condition ≠ .opened → (s.intake.get l).resumeOwed = false →
      exec (.lineCell l m px true) s = .next { s with intake := s.intake.set l { s.intake.get l with
        silence := restartedTimer (s.profile.get l).silenceCode, assembly := none, lastLine := some m } })
    ∧ ((s.lane.get l).state = .acquiring ∨ (s.lane.get l).state = .running ∨ (s.lane.get l).state = .lost →
      (∃ t b, exec (.lineCell l m px true) s = .next t ∧ b = { a with pixels := (a.pixels ++ px.take 29).take w }
          ∧ LineStored l b (decide (b.pixels.length < w)) s t ∧ (t.intake.get l).assembly = none
          ∧ (t.intake.get l).silence = restartedTimer (s.profile.get l).silenceCode
          ∧ (t.lane.get l).state = (s.lane.get l).state ∧ SettingsKept s t ∧ LinksKept s t)
      ∧ ∀ n, (s.intake.get l).assembly = some a → ahead n a.number = true →
        ∃ t, exec (.lineCell l n px false) s = .next t ∧ LineStored l a true s t
          ∧ (t.intake.get l).assembly = some { number := n, pixels := (px.take 29).take w }
          ∧ (t.lane.get l).state = (s.lane.get l).state ∧ SettingsKept s t ∧ LinksKept s t)

/-! ### Perforations -/

/-- A PERF cell (R30 to R32, R34) on a link that is UP restarts the silence timer (under code 0: log entry 6); in IDLE and
DRAINING its edge is discarded; the first edge of a run begins it; afterwards, `e` being the expected pitch and `d` the pitch, it
is spurious, accepted or a gap of missing perforations by the table of R31. In RUNNING an accepted edge is taken into the open
frame, or counted as a lock edge; gaps of one to three are bridged by synthesized edges, and then the real edge is accepted and
taken, unless a boundary among them has sent the lane to DRAINING. -/
def Obligations.PerfCellTaken : Prop :=
  ∀ (s : State) (l : Lane) (q : Position) (p : IntakePort) (g : RegUnit), (s.intake.get l).up = true →
    p = { s.intake.get l with silence := restartedTimer (s.profile.get l).silenceCode } → s.reg.get l = g →
    ((s.lane.get l).state = .idle ∨ (s.lane.get l).state = .draining →
      exec (.perfCell l q) s = .next { s with intake := s.intake.set l p })
    ∧ ((s.lane.get l).state = .acquiring ∨ (s.lane.get l).state = .running ∨ (s.lane.get l).state = .lost →
      (g.lastEdge = none → exec (.perfCell l q) s = .next (settle { s with
        intake := s.intake.set l p, reg := s.reg.set l { g with lastEdge := some q, seekRun := [q] } }))
      ∧ ∀ x d e, g.lastEdge = some x → (q - x).toNat = d →
        e = roundHalfUp ((s.profile.get l).pitch * g.prevRatio.getD 1048576) 1048576 →
        (2 * d < e → exec (.perfCell l q) s = .next (settle { s with
          intake := s.intake.set l p
          cond := s.cond.set l (if (s.cond.get l).condition = .opened then
              { s.cond.get l with record := { (s.cond.get l).record with
                  spurious := min 4294967295 ((s.cond.get l).record.spurious + 1) } }
            else s.cond.get l) }))
        ∧ (e ≤ 2 * d → 2 * d ≤ 3 * e → (s.lane.get l).state ≠ .running → g.seekRun.length < 2 →
          exec (.perfCell l q) s = .next (settle { s with
            intake := s.intake.set l p
            reg := s.reg.set l { g with lastEdge := some q, seekRun := g.seekRun ++ [q] } }))
        ∧ (e ≤ 2 * d → 3 * e < 2 * d → (s.lane.get l).state ≠ .running →
          exec (.perfCell l q) s = .next (settle { s with
            intake := s.intake.set l p, reg := s.reg.set l { g with lastEdge := some q, seekRun := [q] } }))
        ∧ (∀ es, e ≤ 2 * d → 2 * d ≤ 3 * e → (s.lane.get l).state = .running → g.openFrame = some es →
          es.length ≠ (s.profile.get l).k → exec (.perfCell l q) s = .next (settle { s with
            intake := s.intake.set l p
            reg := s.reg.set l { g with
              lastEdge := some q, openFrame := some (es ++ [{ position := q, synthesized := false }]) } }))
        ∧ (e ≤ 2 * d → 2 * d ≤ 3 * e → (s.lane.get l).state = .running → g.openFrame = none →
          exec (.perfCell l q) s = .next (settle { s with
            intake := s.intake.set l p
            reg := s.reg.set l (match g.lockEdges with
              | none => { g with lastEdge := some q }
              | some i => if i = (s.lane.get l).phase
                then { g with lastEdge := some q, lockEdges := none, openFrame := some [{ position := q, synthesized := false }] }
                else { g with lastEdge := some q, lockEdges := some (i + 1) }) }))
        ∧ ∀ n edges u, 3 * e < 2 * d → n = roundHalfUp d e - 1 → n ≤ 3 → (s.lane.get l).state = .running →
          edges = ((List.range n).map fun i =>
            ({ position := x + BitVec.ofNat 36 (roundHalfUp ((i + 1) * d) (n + 1)), synthesized := true } : Edge)) →
          u = takeEdges l edges { s with intake := s.intake.set l p } →
          exec (.perfCell l q) s = .next (settle (if (u.lane.get l).state = .running then
              takeEdge l { u with reg := u.reg.set l { u.reg.get l with lastEdge := some q } }
                { position := q, synthesized := false }
            else u)))

/-- Loss of registration (R33, R122): more than three perforations missing in RUNNING. The lane is LOST, its open frame dropped
without a number, the new edge the first of the seek run, a lost episode counted while the record is OPEN, and the REGISTRATION
source present; an unraised record is raised, and counted. That a count of lock edges ends with the loss is the model's choice
(log entry 17), and so is a silence timer restarted under code 0 (log entry 6). -/
def Obligations.LossOfRegistration : Prop :=
  ∀ (s : State) (l : Lane) (q x : Position) (d e : Nat), (s.intake.get l).up = true → (s.lane.get l).state = .running →
    (s.reg.get l).lastEdge = some x → (q - x).toNat = d →
    e = roundHalfUp ((s.profile.get l).pitch * (s.reg.get l).prevRatio.getD 1048576) 1048576 → 3 * e < 2 * d →
    3 < roundHalfUp d e - 1 → ∃ u, exec (.perfCell l q) s = .next (settle u)
      ∧ u.lane.get l = { s.lane.get l with state := .lost, noticeOverflow := (u.lane.get l).noticeOverflow }
      ∧ u.reg.get l = { s.reg.get l with openFrame := none, lockEdges := none, lastEdge := some q, seekRun := [q] }
      ∧ u.intake.get l = { s.intake.get l with
          silence := restartedTimer (s.profile.get l).silenceCode, pacePlace := (u.intake.get l).pacePlace }
      ∧ ((s.cond.get l).condition = .opened →
          (u.cond.get l).record.lostEpisodes = min 4294967295 ((s.cond.get l).record.lostEpisodes + 1))
      ∧ (alarmRecord l .registration u).present = true
      ∧ ((alarmRecord l .registration s).present = false → (alarmRecord l .registration s).raised = false →
          (alarmRecord l .registration u).raised = true ∧ (alarmRecord l .registration u).inForce = true
          ∧ (alarmRecord l .registration u).raiseCount = min 65535 ((alarmRecord l .registration s).raiseCount + 1))
      ∧ SettingsKept s u ∧ LinksKept s u

/-- Lock and relock (R34, R35, R10): the third accepted edge of a seek run. In ACQUIRING the lane is RUNNING with all three edges
taken as lock edges. In LOST, with next frame number n, min(1024, round_half_up(D / (K * E)) - 1) gaps are placed from n on, none
where no frame has been closed in the pass; each is counted as numbered and gapped, and the relock as a discontinuity. The lane is
RUNNING with side EVEN and the next frame unsmoothed, and the first edge of the run is the reference edge of a new open frame. Gaps
that reach frame 16,777,215 end there, and the lane is DRAINING. The silence timer restarted under code 0: log entry 6. Until the
lane is RUNNING or DRAINING the gaps make no STALL report (log entry 26), and in DRAINING the seek run is empty (log entry 28): both
the model's choice. -/
def Obligations.LockAndRelock : Prop :=
  ∀ (s : State) (l : Lane) (q x e0 e1 : Position) (d e : Nat), (s.intake.get l).up = true →
    (s.reg.get l).lastEdge = some x → (q - x).toNat = d →
    e = roundHalfUp ((s.profile.get l).pitch * (s.reg.get l).prevRatio.getD 1048576) 1048576 → e ≤ 2 * d → 2 * d ≤ 3 * e →
    (s.reg.get l).seekRun = [e0, e1] →
    ((s.lane.get l).state = .acquiring → exec (.perfCell l q) s = .next (settle (takeEdges l
      [{ position := e0, synthesized := false }, { position := e1, synthesized := false }, { position := q, synthesized := false }]
      { s with
        lane := s.lane.set l { s.lane.get l with state := .running }
        intake := s.intake.set l { s.intake.get l with silence := restartedTimer (s.profile.get l).silenceCode }
        reg := s.reg.set l { s.reg.get l with
          lastEdge := some q, seekRun := [], lockEdges := some 0, openFrame := none } })))
    ∧ ∀ n k, (s.lane.get l).state = .lost → (s.lane.get l).nextFrame = some n →
      k = (match (s.reg.get l).lastClosing with
        | none => 0
        | some c => min 1024 (roundHalfUp (e0 - c).toNat ((s.profile.get l).k * e) - 1)) →
      (n + k ≤ 16777215 → ∃ v, exec (.perfCell l q) s = .next (settle (takeEdges l
          [{ position := e1, synthesized := false }, { position := q, synthesized := false }] v))
        ∧ v.lane.get l = { s.lane.get l with
            nextFrame := some (n + k), state := .running
            lastNumbered := if k = 0 then (s.lane.get l).lastNumbered else raiseLast (n + k - 1) (s.lane.get l).lastNumbered }
        ∧ v.reg.get l = { s.reg.get l with
            lastEdge := some q, seekRun := [], lockEdges := none, unsmoothedNext := true
            openFrame := some [{ position := e0, synthesized := false }] }
        ∧ v.grading = { s.grading with side := s.grading.side.set l .even }
        ∧ GapsPlaced l n k s v)
      ∧ (n ≤ 16777215 → 16777215 < n + k → ∃ v, exec (.perfCell l q) s = .next (settle v)
        ∧ v.lane.get l = { s.lane.get l with
            nextFrame := none, state := .draining, lastNumbered := raiseLast 16777215 (s.lane.get l).lastNumbered }
        ∧ v.reg.get l = { s.reg.get l with lastEdge := some q, seekRun := [], openFrame := none }
        ∧ v.grading = s.grading ∧ GapsPlaced l n (16777216 - n) s v)

/-- A frame boundary (R38 to R41, R109 to R111): in RUNNING an accepted edge that is the K-th after the reference edge closes the
frame numbered n with the values R39 to R41 give. An armed commit is swapped; the frame is stamped from the active list, with the
entry of the greatest start frame not above n, or NEUTRAL, and the stamp entered in the stamp list. The frame is held, pending or a
gap, which leaves the list again, as a frame that was pending does (R55). The closing edge is the reference edge of the next open
frame. After frame 16,777,215 the lane is DRAINING. -/
def Obligations.FrameBoundary : Prop :=
  ∀ (s : State) (l : Lane) (q x : Position) (e d n : Nat) (ref : Edge) (es : List Edge) (p : Profile) (g : RegUnit),
    (s.intake.get l).up = true → (s.lane.get l).state = .running → s.profile.get l = p → s.reg.get l = g →
    g.lastEdge = some x → (q - x).toNat = d → e = roundHalfUp (p.pitch * g.prevRatio.getD 1048576) 1048576 → e ≤ 2 * d →
    2 * d ≤ 3 * e → g.openFrame = some (ref :: es) → es.length + 1 = p.k → (s.lane.get l).nextFrame = some n →
    frameSlot l n s = none →
    ∀ (rm ra : Nat) (r : FrameReg), rm = roundHalfUp (1048576 * (q - ref.position).toNat) (p.k * p.pitch) →
      ra = appliedRatio p.smoothing g.unsmoothedNext g.prevRatio (max 983040 (min rm 1064960)) →
      r = { ratio := ra, span := roundHalfUp (p.k * p.pitch * ra) 1048576, reference := ref.position, closing := q
            origin := ref.position + BitVec.ofInt 36 p.frameOffset, interpolated := (ref :: es).any Edge.synthesized
            clamped := decide (rm < 983040 ∨ 1064960 < rm) } →
      ∀ (cues : CueState) (st : Stamp) (stamps : List StampEntry),
      cues = (if (s.cues.get l).armed then
        { active := (s.cues.get l).shadow, shadow := (s.cues.get l).active, armed := false } else s.cues.get l) →
      ((∀ c ∈ cuesInUse cues.active, n < c.start) ∧ st = .neutral
        ∨ ∃ c front back, cuesInUse cues.active = front ++ c :: back ∧ st = .cue c ∧ c.start ≤ n
          ∧ (∀ x ∈ front, x.start ≤ n → x.start < c.start) ∧ ∀ x ∈ back, x.start ≤ n → x.start ≤ c.start) →
      stamps = (s.grading.stamps ++ [({ lane := l, serial := (s.lane.get l).serial, frame := n, banks := match st with
          | .neutral => none
          | .cue c => some (c.even, c.odd) } : StampEntry)]).filter
        (fun e : StampEntry => !(e.lane = l && g.pendingFrame.any fun w : PendingFrame => w.frame = e.frame)) →
      ∃ u, exec (.perfCell l q) s = .next (settle (settle u))
        ∧ (u.lane.get l).nextFrame = (if n = 16777215 then none else some (n + 1))
        ∧ (u.lane.get l).state = (if n = 16777215 then .draining else .running)
        ∧ (u.reg.get l).openFrame = (if n = 16777215 then none else some [{ position := q, synthesized := false }])
        ∧ (u.reg.get l).lastClosing = some q ∧ (u.reg.get l).lastEdge = some q
        ∧ (u.reg.get l).prevRatio = some ra ∧ (u.reg.get l).unsmoothedNext = false
        ∧ (u.reg.get l).strip = g.strip
        ∧ u.cues.get l = cues
        ∧ ((∃ y, frameSlot l n u = some y ∧ y.reg = r ∧ y.stamp = st ∧ u.grading.stamps = stamps)
          ∨ (∃ y, (u.reg.get l).pendingFrame = some y ∧ y.frame = n ∧ y.reg = r ∧ y.stamp = st ∧ u.grading.stamps = stamps)
          ∨ ((n ∈ (u.shelf.get l).gaps ∨ gapHandedOn (u.shelf.get l) = some n)
            ∧ u.grading.stamps = stamps.filter fun e => !(e.lane = l && e.frame = n)))
        ∧ (alarmRecord l .registration u).present = r.interpolated
        ∧ SettingsKept s u ∧ LinksKept s u

/-! ### Extraction and slots -/

/-- The end of an extraction (R26, R36, R37, R41 to R45). The strip answers held, not yet received or older; an extraction in flight
waits while its last needed line is not yet received; else each output line is mixed from its two strip lines, or black where one is
older than the strip holds, and such a line or a filled one makes the frame INCOMPLETE; a splice inside the span makes it SPLICED and
leaves the list; D is the mean green sample of the band, no sample for a SPLICED frame or a band line filled or lost. That a source or
band line not yet received counts as older is the model's choice (log entry 23). The frame is at DETECTING, at the end of the wait
order, and its tallies are added while the record is OPEN. -/
def Obligations.ExtractionEnd : Prop :=
  (∀ (strip : List StripLine) (m : LineNumber), consecutive strip → strip.length ≤ 8192 →
    (∀ x, stripAnswer strip m = .held x ↔ x ∈ strip ∧ x.number = m)
    ∧ (stripAnswer strip m = .notYet ↔ ∀ x ∈ strip.head?, 1 ≤ (m - x.number).toNat ∧ (m - x.number).toNat ≤ 2147483647))
  ∧ ∀ (s : State) (l : Lane) (n : Nat) (x : Slot) (p : Profile) (g : RegUnit) (Y : Nat → Position) (L : Nat → LineNumber)
    (band : LineNumber), frameSlot l n s = some x → x.stage = .extracting → s.profile.get l = p → s.reg.get l = g →
    (∀ j, Y j = x.reg.origin + BitVec.ofNat 36 (roundHalfUp (j * x.reg.span) p.height)) →
    (∀ j, L j = BitVec.ofNat 32 ((Y j).toNat / 16)) →
    band = BitVec.ofNat 32 ((x.reg.origin + BitVec.ofNat 36 (x.reg.span + p.baseOffset)).toNat / 16) →
    lastNeeded p x.reg = (if ahead (band + BitVec.ofNat 32 (p.baseLines - 1)) (L (p.height - 1) + 1)
      then band + BitVec.ofNat 32 (p.baseLines - 1) else L (p.height - 1) + 1)
    ∧ (stripAnswer g.strip (lastNeeded p x.reg) = .notYet → tryEndExtraction l s n = s)
    ∧ (stripAnswer g.strip (lastNeeded p x.reg) ≠ .notYet → ∃ t y, tryEndExtraction l s n = t ∧ frameSlot l n t = some y
      ∧ t = { s with slots := t.slots, reg := t.reg, cond := t.cond, defect := t.defect }
      ∧ t.defect = { s.defect with waitOrder := s.defect.waitOrder ++ [{ lane := l, frame := n }] }
      ∧ (∀ m, m ≠ n → frameSlot l m t = frameSlot l m s) ∧ (∀ m, frameSlot (otherLane l) m t = frameSlot (otherLane l) m s)
      ∧ y = { x with picture := y.picture, incomplete := y.incomplete, spliced := y.spliced, density := y.density
                     stage := .detecting }
      ∧ y.picture.length = p.height
      ∧ (∀ j < p.height,
          (∀ a b, stripAnswer g.strip (L j) = .held a → stripAnswer g.strip (L j + 1) = .held b →
            y.picture[j]? = some (List.zipWith (fun v w : Pixel => ({
              r := mixSample ((Y j).toNat % 16) v.r w.r, g := mixSample ((Y j).toNat % 16) v.g w.g,
              b := mixSample ((Y j).toNat % 16) v.b w.b, ir := mixSample ((Y j).toNat % 16) v.ir w.ir } : Pixel))
              a.pixels b.pixels))
          ∧ ((∀ a b, ¬(stripAnswer g.strip (L j) = .held a ∧ stripAnswer g.strip (L j + 1) = .held b)) →
            y.picture[j]? = some (List.replicate p.width { r := 0, g := 0, b := 0, ir := 0 })))
      ∧ (y.incomplete = false ↔ ∀ j < p.height, ∃ a b, stripAnswer g.strip (L j) = .held a
          ∧ stripAnswer g.strip (L j + 1) = .held b ∧ a.filled = false ∧ b.filled = false)
      ∧ (y.spliced = true ↔ ∃ q ∈ g.splices, (q - x.reg.reference).toNat < (x.reg.closing - x.reg.reference).toNat)
      ∧ (∀ line : Nat → StripLine, y.spliced = false →
          (∀ i < p.baseLines, stripAnswer g.strip (band + BitVec.ofNat 32 i) = .held (line i) ∧ (line i).filled = false) →
          y.density = .sampled ((((List.range p.baseLines).map fun i =>
              ((List.range (p.baseColumns.x1 + 1 - p.baseColumns.x0)).map fun c =>
                ((line i).pixels.getD (p.baseColumns.x0 + c) { r := 0, g := 0, b := 0, ir := 0 }).g.toNat).sum).sum)
            / (p.baseLines * (p.baseColumns.x1 + 1 - p.baseColumns.x0))))
      ∧ ((y.spliced = true ∨ ∃ i < p.baseLines, ∀ a, stripAnswer g.strip (band + BitVec.ofNat 32 i) = .held a →
          a.filled = true) → y.density = .noSample)
      ∧ t.reg.get (otherLane l) = s.reg.get (otherLane l) ∧ t.reg.get l = { g with splices := (t.reg.get l).splices }
      ∧ (∀ q, q ∈ (t.reg.get l).splices ↔ q ∈ g.splices
          ∧ ¬(q - x.reg.reference).toNat < (x.reg.closing - x.reg.reference).toNat
          ∧ ∀ h, spliceHorizon l t = some h → ¬(1 ≤ (h - q).toNat ∧ (h - q).toNat ≤ 34359738368))
      ∧ t.cond.get (otherLane l) = s.cond.get (otherLane l)
      ∧ t.cond.get l = (if (s.cond.get l).condition = .opened then { s.cond.get l with record :=
          { (s.cond.get l).record with
            extracted := min 16777216 ((s.cond.get l).record.extracted + 1)
            interpolated := min 16777216 ((s.cond.get l).record.interpolated + y.reg.interpolated.toNat)
            clamped := min 16777216 ((s.cond.get l).record.clamped + y.reg.clamped.toNat)
            incomplete := min 16777216 ((s.cond.get l).record.incomplete + y.incomplete.toNat)
            spliced := min 16777216 ((s.cond.get l).record.spliced + y.spliced.toNat)
            ratioMin := some (min y.reg.ratio ((s.cond.get l).record.ratioMin.getD y.reg.ratio))
            ratioMax := some (max y.reg.ratio ((s.cond.get l).record.ratioMax.getD y.reg.ratio))
            ratioSum := min 281474976710655 ((s.cond.get l).record.ratioSum + y.reg.ratio) } } else s.cond.get l))

/-- Grant, slot wait, abandonment, release and occupancy (R50 to R56, R58, R60, R62). A pending frame is granted the lowest-numbered
FREE slot where R50 allows, and keeps waiting where it does not; its record has the boundary's values, and its extraction starts at
once. One whose first needed line is older than the strip holds becomes a gap. A settled acknowledged frame is freed inside the step
and no other frame is; freed slots are offered in request order; the level follows the table of R62, and the pace level the level. -/
def Obligations.SlotsGrantedAndReleased : Prop :=
  (∀ (s : State) (l : Lane) (p : PendingFrame), HeldLaw l s → (s.reg.get l).pendingFrame = some p →
    ((freeCount s = 0 ∨ 16 ≤ heldCount l s ∨ 4 ≤ heldCount l s ∧ freeCount s < 4 - heldCount (otherLane l) s + 1) →
      tryGrant l s = s)
    ∧ (freeCount s ≠ 0 → (heldCount l s < 4 ∨ heldCount l s < 16 ∧ 4 - heldCount (otherLane l) s + 1 ≤ freeCount s) →
      ∃ (u : State) (i : Nat), tryGrant l s = tryEndExtraction l u p.frame
        ∧ s.slots[i]? = some none ∧ (∀ j < i, s.slots[j]? ≠ some none)
        ∧ u.slots[i]? = some (some ({
            lane := l, serial := p.serial, frame := p.frame, stage := .extracting, reg := p.reg, incomplete := false
            spliced := false, density := .absent, defects := none, outcome := none, stamp := p.stamp, graded := none
            ungraded := decide (p.stamp = .neutral), offer := none, entry := none, ack := .notOffered, reoffer := false
            picture := [] } : Slot))
        ∧ (∀ j, j ≠ i → (u.slots[j]?).map (Option.map fun x : Slot => (x.lane, x.serial, x.frame))
            = (s.slots[j]?).map (Option.map fun x : Slot => (x.lane, x.serial, x.frame)))
        ∧ u.reg = s.reg.set l { s.reg.get l with pendingFrame := none } ∧ u.requests = s.requests.erase l
        ∧ (u.lane.get l).lastNumbered = raiseLast p.frame (s.lane.get l).lastNumbered
        ∧ ((s.cond.get l).condition = .opened →
            (u.cond.get l).record.numbered = min 16777216 ((s.cond.get l).record.numbered + 1))
        ∧ LevelAfter (s.occupancy.get l) (heldCount l s + 1) (u.occupancy.get l).level
        ∧ (u.alarms.get l).recentAbandon = false))
  ∧ (∀ (s : State) (l : Lane) (p : PendingFrame), (s.reg.get l).pendingFrame = some p →
    (stripAnswer (s.reg.get l).strip (BitVec.ofNat 32 (p.reg.origin.toNat / 16)) ≠ .older → abandonLost l s = s)
    ∧ (stripAnswer (s.reg.get l).strip (BitVec.ofNat 32 (p.reg.origin.toNat / 16)) = .older → ∃ t, abandonLost l s = t
        ∧ t.reg = s.reg.set l { s.reg.get l with pendingFrame := none } ∧ t.requests = s.requests.erase l
        ∧ (p.frame ∈ (t.shelf.get l).gaps ∨ gapHandedOn (t.shelf.get l) = some p.frame)
        ∧ t.occupancy = s.occupancy ∧ heldCount l t = heldCount l s
        ∧ (t.lane.get l).lastNumbered = raiseLast p.frame (s.lane.get l).lastNumbered
        ∧ t.grading = { s.grading with stamps := s.grading.stamps.filter fun e => !(e.lane = l && e.frame = p.frame) }
        ∧ ((s.cond.get l).condition = .opened →
            (t.cond.get l).record.numbered = min 16777216 ((s.cond.get l).record.numbered + 1)
            ∧ (t.cond.get l).record.gapped = min 16777216 ((s.cond.get l).record.gapped + 1))
        ∧ (t.alarms.get l).recentAbandon = true ∧ (alarmRecord l .stall t).present = true))
  ∧ (∀ (s : State) (l : Lane) (n : Nat) (x : Slot), (∀ m, HeldLaw m s) → frameSlot l n s = some x →
    (x.stage = .shelvedHeld → successorSettled l n s = true → frameSlot l n (settle s) = none)
    ∧ ((x.stage ≠ .shelvedHeld ∨ successorSettled l n s = false) → (frameSlot l n (settle s)).isSome = true))
  ∧ (∀ (s : State) (l : Lane),
    (s.requests = [l] → offerFree s = tryGrant l s)
    ∧ (s.requests = [l, otherLane l] → offerFree s = tryGrant (otherLane l) (tryGrant l s)))
  ∧ ∀ (s : State) (l : Lane), ∃ t, reviewOccupancy l s = t
    ∧ LevelAfter (s.occupancy.get l) (heldCount l s) (t.occupancy.get l).level
    ∧ t = { s with occupancy := s.occupancy.set l { s.occupancy.get l with level := (t.occupancy.get l).level }
                   alarms := t.alarms, intake := t.intake }
    ∧ (PaceLaw l s → PaceLaw l t) ∧ t.alarms.get (otherLane l) = s.alarms.get (otherLane l)

/-! ### Transport reports -/

/-- TRANSPORT_CELL (R36, R123) and SILENCE_EXPIRY (R27, R123). A splice position is discarded in IDLE, else appended, the oldest
of 16 leaving; two tension reports in a row of one kind set or clear the tension fault; a silence expiry sets silence, and the
first LINE cell after it clears it. TRANSPORT is present while tension fault or silence is set. The model's: a timer restarted
under code 0 (log entry 6), and the expiry of a timer not RUNNING, which changes nothing (log entry 2). -/
def Obligations.TransportReports : Prop :=
  (∀ (s : State) (l : Lane) (x : Tension) (q : Option Position) (n : Nat), (s.intake.get l).up = true →
    n = (if (s.alarms.get l).tensionKind = some (decide (x ≠ .normal)) then min 2 ((s.alarms.get l).tensionCount + 1) else 1) →
    ∃ t, exec (.transportCell l x q) s = .next t
      ∧ t.reg = s.reg.set l { s.reg.get l with splices := match q with
          | none => (s.reg.get l).splices
          | some y => if (s.lane.get l).state = .idle then (s.reg.get l).splices
            else (if 16 ≤ (s.reg.get l).splices.length then (s.reg.get l).splices.tail else (s.reg.get l).splices) ++ [y] }
      ∧ t.intake.get l = { s.intake.get l with
          silence := restartedTimer (s.profile.get l).silenceCode, pacePlace := (t.intake.get l).pacePlace }
      ∧ (t.alarms.get l).tensionKind = some (decide (x ≠ .normal)) ∧ (t.alarms.get l).tensionCount = n
      ∧ (t.alarms.get l).tensionFault = (if n = 2 then decide (x ≠ .normal) else (s.alarms.get l).tensionFault)
      ∧ (t.alarms.get l).silence = (s.alarms.get l).silence
      ∧ (alarmRecord l .transport t).present = ((t.alarms.get l).tensionFault || (t.alarms.get l).silence)
      ∧ (∀ src, src ≠ .transport → (alarmRecord l src t).present = (alarmRecord l src s).present)
      ∧ (t.lane.get l).state = (s.lane.get l).state ∧ SettingsKept s t ∧ LinksKept s t)
  ∧ (∀ (s : State) (l : Lane),
    (silenceRunning (s.intake.get l) = false → exec (.silenceExpiry l) s = .next s)
    ∧ (∀ ms, (s.intake.get l).silence = .running ms → ∃ t, exec (.silenceExpiry l) s = .next t
      ∧ t.intake.get l = { s.intake.get l with
          silence := .expired, resumeOwed := true, pacePlace := (t.intake.get l).pacePlace }
      ∧ (t.alarms.get l).silence = true ∧ (alarmRecord l .transport t).present = true
      ∧ (∀ src, src ≠ .transport → (alarmRecord l src t).present = (alarmRecord l src s).present)
      ∧ t.reg = s.reg ∧ (t.lane.get l).state = (s.lane.get l).state ∧ SettingsKept s t ∧ LinksKept s t))
  ∧ ∀ (s : State) (l : Lane) (m : LineNumber) (px : List Pixel) (last : Bool), (s.intake.get l).up = true →
    (s.intake.get l).resumeOwed = true → ∃ t, exec (.lineCell l m px last) s = .next t
      ∧ (t.intake.get l).resumeOwed = false ∧ (t.alarms.get l).silence = false
      ∧ (alarmRecord l .transport t).present = (s.alarms.get l).tensionFault

/-! ### The engines -/

/-- Defect records (R69 to R74, R80): the groups of runs a picture gives are its connected areas of defective pixels; each group's
box is tight, its area the number of its pixels; the completed records are the groups' boxes in order of last line, first column and
leftmost run on the last line; the first 32 are kept, and the areas of the rest make the overflow area. A record persists where its
box overlaps a kept record of the frame before, held and not beyond a splice. -/
def Obligations.DefectRecords : Prop :=
  (∀ (threshold : Nat) (picture : List (List Pixel)) (groups : List (List Run)), recordRuns threshold picture = groups →
    (∀ y x, Defective threshold picture y x ↔ ∃ g ∈ groups, holdsPixel g y x = true)
    ∧ groups.Pairwise (fun g h => ∀ y x, holdsPixel g y x = true → holdsPixel h y x = false)
    ∧ (∀ g ∈ groups, ∀ y x v w, holdsPixel g y x = true → (holdsPixel g v w = true ↔ Connected threshold picture y x v w))
    ∧ (∀ g ∈ groups, ∀ b, recordBox g = b →
        LeastOf (fun x => ∃ y, holdsPixel g y x = true) b.x0 ∧ GreatestOf (fun x => ∃ y, holdsPixel g y x = true) b.x1
        ∧ LeastOf (fun y => ∃ x, holdsPixel g y x = true) b.y0 ∧ GreatestOf (fun y => ∃ x, holdsPixel g y x = true) b.y1
        ∧ LeastOf (fun x => holdsPixel g b.y1 x = true) b.leftmost
        ∧ ∀ w, (∀ line ∈ picture, line.length ≤ w) →
          b.area = ((List.range picture.length).map fun y => (List.range w).countP (holdsPixel g y)).sum)
    ∧ (completedRecords threshold picture).Perm (groups.map recordBox)
    ∧ (completedRecords threshold picture).Pairwise (fun b c => b.y1 < c.y1
        ∨ b.y1 = c.y1 ∧ (b.x0 < c.x0 ∨ b.x0 = c.x0 ∧ b.leftmost ≤ c.leftmost)))
  ∧ (∀ (rules : List ClassifierRule) (p : Profile) (previous : List DefectRecord) (picture : List (List Pixel)) (d : DefectList)
    (all : List RecordBox), completedRecords p.irThreshold picture = all → d = defectList rules p previous picture →
    d.records.length = min 32 all.length ∧ d.overflow = ((all.drop 32).map RecordBox.area).sum
    ∧ totalArea d = (all.map RecordBox.area).sum
    ∧ ∀ (i : Nat) (r : DefectRecord), d.records[i]? = some r → ∃ b : RecordBox, all[i]? = some b ∧ r.x0 = b.x0 ∧ r.x1 = b.x1 ∧ r.y0 = b.y0 ∧ r.y1 = b.y1
      ∧ r.area = b.area ∧ r.outcome = none ∧ ((∀ q ∈ previous, BoxHolds q) → (r.persistence = true ↔ ∃ q ∈ previous, BoxesMeet r q)))
  ∧ ∀ (s : State) (l : Lane) (x : Slot),
    ((x.spliced = true ∨ x.frame = 0 ∨ frameSlot l (x.frame - 1) s = none) → persistenceRecords l x s = [])
    ∧ ∀ y d, x.spliced = false → x.frame ≠ 0 → frameSlot l (x.frame - 1) s = some y → y.defects = some d →
      persistenceRecords l x s = d.records

/-- Repair (R87 to R93): a neighbour is usable where its frame is held and no splice lies between, clean for a record where no box of
its kept records overlaps the record's; a TEMPORAL record takes the mean of both clean neighbours, or the one's samples, and with
none falls back to SPATIAL; a SPATIAL one is drawn between its two anchors, takes the one of a box at a frame edge, and is
UNREPAIRABLE beyond the width limit or at both edges; KEEP and UNREPAIRABLE leave the picture. At a REPAIR_END the records are dealt
with in their order, each on the picture the ones before have left. -/
def Obligations.RepairChoice : Prop :=
  (∀ (s : State) (l : Lane) (x : Slot),
    (∀ m, neighbourBefore l x s = some m ↔ x.spliced = false ∧ x.frame ≠ 0 ∧ ∃ y, frameSlot l (x.frame - 1) s = some y
      ∧ m.picture = y.picture ∧ m.records = (match y.defects with | none => [] | some d => d.records))
    ∧ ∀ m, neighbourAfter l x s = some m ↔ ∃ y, frameSlot l (x.frame + 1) s = some y ∧ y.spliced = false
      ∧ m.picture = y.picture ∧ m.records = (match y.defects with | none => [] | some d => d.records))
  ∧ (∀ (p : Profile) (before after : Option Neighbour) (r : DefectRecord) (picture : List (List Pixel))
    (after' : List (List Pixel)) (o : RecordOutcome) (clean : Option Neighbour → Neighbour → Prop) (w : Nat), BoxHolds r →
    (∀ n m, clean n m ↔ n = some m ∧ ∀ q ∈ m.records, ¬BoxesMeet r q) → (∀ n ∈ [before, after], ∀ m ∈ n, ∀ q ∈ m.records, BoxHolds q) →
    repairRecord p before after r picture = (after', o) → w = r.x1 - r.x0 + 1 →
    (r.action = .keep → after' = picture ∧ o = .kept)
    ∧ (r.action = .unrepairable → after' = picture ∧ o = .unrepairable)
    ∧ (r.action = .temporal → ∀ m n, clean before m → clean after n → o = .repairedTemporal
        ∧ BoxRewritten r (fun y x => {
            r := meanSample (pixelAt m.picture y x).r (pixelAt n.picture y x).r
            g := meanSample (pixelAt m.picture y x).g (pixelAt n.picture y x).g
            b := meanSample (pixelAt m.picture y x).b (pixelAt n.picture y x).b, ir := 0 }) picture after')
    ∧ (r.action = .temporal → ∀ m, clean before m → (∀ n, ¬clean after n) → o = .repairedTemporal
        ∧ BoxRewritten r (fun y x => pixelAt m.picture y x) picture after')
    ∧ (r.action = .temporal → ∀ n, (∀ m, ¬clean before m) → clean after n → o = .repairedTemporal
        ∧ BoxRewritten r (fun y x => pixelAt n.picture y x) picture after')
    ∧ ((r.action = .spatial ∨ r.action = .temporal ∧ (∀ m, ¬clean before m) ∧ ∀ n, ¬clean after n) →
      ((p.spatialMax < w ∨ r.x0 = 0 ∧ r.x1 + 1 = p.width) → after' = picture ∧ o = .unrepairable)
      ∧ (w ≤ p.spatialMax → r.x0 = 0 → r.x1 + 1 ≠ p.width → o = .repairedSpatial
        ∧ BoxRewritten r (fun y _ => pixelAt picture y (r.x1 + 1)) picture after')
      ∧ (w ≤ p.spatialMax → r.x0 ≠ 0 → r.x1 + 1 = p.width → o = .repairedSpatial
        ∧ BoxRewritten r (fun y _ => pixelAt picture y (r.x0 - 1)) picture after')
      ∧ (w ≤ p.spatialMax → r.x0 ≠ 0 → r.x1 + 1 ≠ p.width → o = .repairedSpatial
        ∧ BoxRewritten r (fun y x => {
            r := spatialSample w (x - r.x0 + 1) (pixelAt picture y (r.x0 - 1)).r (pixelAt picture y (r.x1 + 1)).r
            g := spatialSample w (x - r.x0 + 1) (pixelAt picture y (r.x0 - 1)).g (pixelAt picture y (r.x1 + 1)).g
            b := spatialSample w (x - r.x0 + 1) (pixelAt picture y (r.x0 - 1)).b (pixelAt picture y (r.x1 + 1)).b
            ir := 0 }) picture after')))
  ∧ ∀ (s : State) (f : FrameRef) (x : Slot) (d : DefectList) (one : DefectRecord → List (List Pixel) → List (List Pixel) × RecordOutcome)
    (upTo : Nat → List (List Pixel)), s.repair.under = some f → frameSlot f.lane f.frame s = some x → x.defects = some d →
    one = repairRecord (s.profile.get f.lane) (neighbourBefore f.lane x s) (neighbourAfter f.lane x s) →
    upTo 0 = x.picture → (∀ i r, d.records[i]? = some r → upTo (i + 1) = (one r (upTo i)).1) →
    ∃ (u : State) (y : Slot) (e : DefectList), exec .repairEnd s = .next (settle u) ∧ frameSlot f.lane f.frame u = some y
      ∧ y.defects = some e
      ∧ y.picture = upTo d.records.length ∧ e.records.length = d.records.length
      ∧ ∀ (i : Nat) (r : DefectRecord), d.records[i]? = some r → e.records[i]? = some { r with outcome := some (one r (upTo i)).2 }

/-- What an engine takes (R66, R67, R83 to R85, R112, R113, R115): nothing while it works; with both lanes waiting the lane not last
served, and with none served yet the one that stands earlier in the wait, ready or stamp order. Ready frames enter the ready order, A
before B (the model's order in one event, log entry 9). The start of a grading resolves curve set and side from stamp, mode and lane
side, with GRADE_BYPASS the NEUTRAL set and BYPASSED, with MARK_REVIEW the review mark. -/
def Obligations.EngineStarts : Prop :=
  (∀ s : State, (∀ l, HeldLaw l s) →
    ((s.defect.under ≠ none ∨ ∀ l n, ¬Eligible l s n) → startDetection s = s)
    ∧ ∀ l n, s.defect.under = none → Eligible l s n →
      GoesFirst l n s.defect.lastServed s.defect.waitOrder (Eligible (otherLane l) s) →
      startDetection s = { s with defect := { s.defect with
        under := some { lane := l, frame := n }, lastServed := some l
        waitOrder := s.defect.waitOrder.erase { lane := l, frame := n } } })
  ∧ (∀ s : State, (∀ l, HeldLaw l s) → ∃ order entered, order = s.repair.readyOrder ++ entered
    ∧ (∀ r, r ∈ entered ↔ Ready r.lane s r.frame ∧ r ∉ s.repair.readyOrder) ∧ entered.Pairwise (fun p q => p.lane = .a ∧ q.lane = .b)
    ∧ ((s.repair.under ≠ none ∨ order = []) → startRepair s = { s with repair := { s.repair with readyOrder := order } })
    ∧ ∀ (l : Lane) (n : Nat) (front back : List FrameRef), s.repair.under = none → order = front ++ { lane := l, frame := n } :: back →
      (∀ m, ({ lane := l, frame := m } : FrameRef) ∉ front) →
      GoesFirst l n s.repair.lastServed order (fun m => ({ lane := otherLane l, frame := m } : FrameRef) ∈ order) →
      startRepair s = updFrame l n (fun x => { x with stage := .repairing }) { s with repair := { s.repair with
        under := some { lane := l, frame := n }, lastServed := some l
        readyOrder := order.erase { lane := l, frame := n } } })
  ∧ ∀ s : State, (∀ l, HeldLaw l s) →
    ((s.grading.under ≠ none ∨ ∀ l n, ¬Candidate l s n) → startGrading s = s)
    ∧ ∀ l n x, s.grading.under = none → Candidate l s n → frameSlot l n s = some x →
      GoesFirst l n s.grading.lastServed (s.grading.stamps.map fun e => { lane := e.lane, frame := e.frame })
        (Candidate (otherLane l) s) →
      ∃ g : Graded, startGrading s = updFrame l n (fun x => { x with stage := .grading }) { s with grading := { s.grading with
          under := some { ref := { lane := l, frame := n }, resolved := g }, lastServed := some l } }
        ∧ g.review = (responsesInForce l s).markReview
        ∧ (x.stamp = .neutral → g.curve = .neutral ∧ g.side = s.grading.side.get l ∧ g.bypassed = false)
        ∧ ∀ e, x.stamp = .cue e → g.bypassed = (responsesInForce l s).gradeBypass
          ∧ g.side = (match e.mode with
            | .evenOnly => .even
            | .oddOnly => .odd
            | .sensed => s.grading.side.get l)
          ∧ g.curve = (if (responsesInForce l s).gradeBypass then .neutral
            else .bank (match g.side with
              | .even => e.even
              | .odd => e.odd))

/-! ### The ends of the engines' work -/

/-- DETECTION_END (R79 to R81, R121, R126): the frame under detection, `x` its slot, takes the defect list `d` and goes to
AWAIT_NEIGHBOUR, the engine is free, the lane's last detected frame is it; records and overflow are tallied while the record is
OPEN; the DAMAGE sample is OVER where the total defect area exceeds the damage threshold. The second OVER in a row makes DAMAGE
present, with its raise, the second NOT_OVER ends it. With a free engine nothing changes (log entry 2). -/
def Obligations.DetectionEnd : Prop :=
  (∀ s : State, s.defect.under = none → exec .detectionEnd s = .next s)
  ∧ ∀ (s : State) (f : FrameRef) (x : Slot) (d : DefectList), s.defect.under = some f →
    frameSlot f.lane f.frame s = some x → x.stage = .detecting →
    d = defectList (s.rules.get f.lane) (s.profile.get f.lane) (persistenceRecords f.lane x s) x.picture →
    ∃ u, exec .detectionEnd s = .next (settle u)
      ∧ frameSlot f.lane f.frame u = some { x with defects := some d, stage := .awaitNeighbour }
      ∧ d.records.length ≤ 32
      ∧ u.defect = { s.defect with under := none, lastDetected := s.defect.lastDetected.set f.lane (some f.frame) }
      ∧ ((s.cond.get f.lane).condition = .opened →
          (u.cond.get f.lane).record.defectRecords
              = min 4294967295 ((s.cond.get f.lane).record.defectRecords + d.records.length)
            ∧ (u.cond.get f.lane).record.overflowFrames
              = min 16777216 ((s.cond.get f.lane).record.overflowFrames + if d.overflow = 0 then 0 else 1))
      ∧ ((s.profile.get f.lane).damageThreshold < totalArea d →
          (u.alarms.get f.lane).overRun = min 2 ((s.alarms.get f.lane).overRun + 1)
            ∧ (u.alarms.get f.lane).notOverRun = 0)
      ∧ (totalArea d ≤ (s.profile.get f.lane).damageThreshold →
          (u.alarms.get f.lane).overRun = 0
            ∧ (u.alarms.get f.lane).notOverRun = min 2 ((s.alarms.get f.lane).notOverRun + 1))
      ∧ ((s.profile.get f.lane).damageThreshold < totalArea d → 1 ≤ (s.alarms.get f.lane).overRun →
          (alarmRecord f.lane .damage u).present = true
          ∧ ((alarmRecord f.lane .damage s).present = false → (alarmRecord f.lane .damage s).raised = false →
              (alarmRecord f.lane .damage u).raised = true ∧ (alarmRecord f.lane .damage u).inForce = true
              ∧ (alarmRecord f.lane .damage u).raiseCount = min 65535 ((alarmRecord f.lane .damage s).raiseCount + 1)
              ∧ ((s.cond.get f.lane).condition = .opened → (u.cond.get f.lane).record.raiseDamage
                  = min 65535 ((s.cond.get f.lane).record.raiseDamage + 1))))
      ∧ (totalArea d ≤ (s.profile.get f.lane).damageThreshold → 1 ≤ (s.alarms.get f.lane).notOverRun →
          (alarmRecord f.lane .damage u).present = false)
      ∧ (((s.profile.get f.lane).damageThreshold < totalArea d ∧ (s.alarms.get f.lane).overRun = 0
            ∨ totalArea d ≤ (s.profile.get f.lane).damageThreshold ∧ (s.alarms.get f.lane).notOverRun = 0) →
          alarmRecord f.lane .damage u = alarmRecord f.lane .damage s)
      ∧ SettingsKept s u ∧ LinksKept s u

/-- REPAIR_END (R89 to R95, R97): the frame under repair, `x` its slot, goes to GRADING_WAIT with every record's outcome and the
frame's; IR and every pixel outside all boxes stay; the engine is free, the lane's cursor at the frame; the outcome is tallied
while the record is OPEN; a PARTIAL one enters an empty first-unrepairable register. With a free engine nothing changes (log entry
2). -/
def Obligations.RepairEnd : Prop :=
  (∀ s : State, s.repair.under = none → exec .repairEnd s = .next s)
  ∧ ∀ (s : State) (f : FrameRef) (x : Slot) (d : DefectList), s.repair.under = some f →
    frameSlot f.lane f.frame s = some x → x.defects = some d →
    ∃ u y e o, exec .repairEnd s = .next (settle u) ∧ frameSlot f.lane f.frame u = some y
      ∧ y = { x with picture := y.picture, defects := some e, outcome := some o, stage := .gradingWait }
      ∧ e.overflow = d.overflow
      ∧ e.records.map (fun r : DefectRecord => { r with outcome := none })
          = d.records.map (fun r : DefectRecord => { r with outcome := none })
      ∧ (∀ r ∈ e.records, r.outcome ≠ none ∧ (r.action = .keep → r.outcome = some .kept)
          ∧ (r.action = .unrepairable → r.outcome = some .unrepairable))
      ∧ (o = .clean ↔ d.records = [] ∧ d.overflow = 0)
      ∧ (o = .partially ↔ (∃ r ∈ e.records, r.outcome = some .unrepairable) ∨ 0 < d.overflow)
      ∧ y.picture.map List.length = x.picture.map List.length
      ∧ (∀ i j, (pixelAt y.picture i j).ir = (pixelAt x.picture i j).ir)
      ∧ (∀ i j, (∀ r ∈ d.records, (r.action = .temporal ∨ r.action = .spatial) →
            ¬(r.x0 ≤ j ∧ j ≤ r.x1 ∧ r.y0 ≤ i ∧ i ≤ r.y1)) → pixelAt y.picture i j = pixelAt x.picture i j)
      ∧ u.repair.under = none ∧ u.repair.cursor = s.repair.cursor.set f.lane (some f.frame)
      ∧ u.repair.firstUnrepairable = (match o, s.repair.firstUnrepairable.get f.lane with
          | .partially, none => s.repair.firstUnrepairable.set f.lane
              (some { frame := f.frame, serial := (s.lane.get f.lane).serial })
          | _, _ => s.repair.firstUnrepairable)
      ∧ ((s.cond.get f.lane).condition = .opened →
          (u.cond.get f.lane).record.unrepairable = min 4294967295 ((s.cond.get f.lane).record.unrepairable
              + e.records.countP fun r => r.outcome = some .unrepairable)
            ∧ (o = .clean → (u.cond.get f.lane).record.cleanFrames
                = min 16777216 ((s.cond.get f.lane).record.cleanFrames + 1))
            ∧ (o = .repaired → (u.cond.get f.lane).record.repairedFrames
                = min 16777216 ((s.cond.get f.lane).record.repairedFrames + 1))
            ∧ (o = .partially → (u.cond.get f.lane).record.partialFrames
                = min 16777216 ((s.cond.get f.lane).record.partialFrames + 1)))
      ∧ SettingsKept s u ∧ LinksKept s u

/-- GRADING_END (R104, R117, R118, R125): the frame under grading, `x` its slot, goes to SHELF_WAIT graded as its start resolved
it, IR left; its stamp leaves the stamp list; the side follows R117, a change being a SHIFT sample, counted while the record is
OPEN; the engine is free. With a free engine nothing changes (log entry 2). -/
def Obligations.GradingEnd : Prop :=
  (∀ s : State, s.grading.under = none → exec .gradingEnd s = .next s)
  ∧ ∀ (s : State) (g : UnderGrading) (l : Lane) (x : Slot) (side : Side), s.grading.under = some g → g.ref.lane = l →
    frameSlot l g.ref.frame s = some x → x.stage = .grading →
    side = (match x.stamp, x.density, s.grading.side.get l with
      | .cue e, .sampled d, .even =>
        if e.mode = .sensed ∧ (x.frame - (s.lane.get l).firstFrame) % e.interval = 0 ∧ e.threshold + e.hysteresis < d
        then .odd else .even
      | .cue e, .sampled d, .odd =>
        if e.mode = .sensed ∧ (x.frame - (s.lane.get l).firstFrame) % e.interval = 0 ∧ d < e.threshold - e.hysteresis
        then .even else .odd
      | _, _, side => side) →
    ∃ u y, exec .gradingEnd s = .next (settle u) ∧ frameSlot l g.ref.frame u = some y
      ∧ y = { x with graded := some g.resolved, picture := gradePicture s g.resolved.curve x.picture, stage := .shelfWait }
      ∧ (∀ i j, (pixelAt y.picture i j).ir = (pixelAt x.picture i j).ir)
      ∧ u.grading = { s.grading with
          under := none, side := s.grading.side.set l side, lastGraded := s.grading.lastGraded.set l (some g.ref.frame)
          stamps := s.grading.stamps.filter fun e => !(e.lane = l && e.serial = x.serial && e.frame = g.ref.frame) }
      ∧ (alarmRecord l .baseShift u).present = decide (side ≠ s.grading.side.get l)
      ∧ ((s.cond.get l).condition = .opened → (s.cond.get l).record.baseShifts ≤ 4294967295 →
          (u.cond.get l).record.baseShifts = min 4294967295 ((s.cond.get l).record.baseShifts
            + if side = s.grading.side.get l then 0 else 1))
      ∧ SettingsKept s u ∧ LinksKept s u

/-! ### What follows inside a step -/

/-- What follows from an event inside its step never changes a table or setting, a link or its counts, the strip, an edge or a
ratio, a number given out, an outstanding offer, an alarm's responses, or any present flag but STALL's; and the only pass state
it changes is DRAINING, to IDLE (R14). -/
def Obligations.SettleFrame : Prop :=
  ∀ (s : State) (l : Lane),
    SettingsKept s (settle s) ∧ LinksKept s (settle s) ∧ (settle s).freeIndex = s.freeIndex
    ∧ (settle s).archive.sending = s.archive.sending ∧ (settle s).archive.lastFrameLane = s.archive.lastFrameLane
    ∧ (settle s).intake.get l = { s.intake.get l with pacePlace := ((settle s).intake.get l).pacePlace }
    ∧ ((settle s).reg.get l).strip = (s.reg.get l).strip ∧ ((settle s).reg.get l).lastEdge = (s.reg.get l).lastEdge
    ∧ ((settle s).reg.get l).seekRun = (s.reg.get l).seekRun ∧ ((settle s).reg.get l).openFrame = (s.reg.get l).openFrame
    ∧ ((settle s).reg.get l).prevRatio = (s.reg.get l).prevRatio
    ∧ ((settle s).reg.get l).lastClosing = (s.reg.get l).lastClosing
    ∧ ((settle s).lane.get l).serial = (s.lane.get l).serial ∧ ((settle s).lane.get l).nextFrame = (s.lane.get l).nextFrame
    ∧ ((settle s).lane.get l).profileValid = (s.lane.get l).profileValid
    ∧ ((s.lane.get l).state ≠ .draining → ((settle s).lane.get l).state = (s.lane.get l).state)
    ∧ ((s.lane.get l).state = .draining →
        ((settle s).lane.get l).state = .draining ∨ ((settle s).lane.get l).state = .idle)
    ∧ (∀ src, src ≠ .stall → (alarmRecord l src (settle s)).present = (alarmRecord l src s).present)
    ∧ (∀ src, (alarmRecord l src (settle s)).responses = (alarmRecord l src s).responses)
    ∧ ((settle s).shelf.get l).outstanding = (s.shelf.get l).outstanding
    ∧ ((settle s).shelf.get l).timedOut = (s.shelf.get l).timedOut
    ∧ ((settle s).shelf.get l).stale = (s.shelf.get l).stale

/-- Handing on and drain (R14, R144, R145, R147, R165). In RUNNING with no item in transmission, the lowest re-offered frame comes
before the cursor's; a frame at SHELF_WAIT begins its offer under an OPEN entry with room and fewer than 4 offers, with the offer
counter's number, the lowest free place or the next place, and its block; a gap is handed on. What cannot be handed on waits, and
nothing that can be handed on waits after a step. A DRAINING lane without slot, pending frame and waiting gap is finalised IDLE. -/
def Obligations.HandingOnAndDrain : Prop :=
  (∀ (s : State) (l : Lane) (v : ShelfUnit) (e : ShelfEntry) (room : Nat → Prop), s.shelf.get l = v → entryAt v v.current = e →
    v.current < v.entries.length →
    (∀ n, room n ↔ (∃ x, frameSlot l n s = some x ∧ x.stage = .shelfWait) ∧ e.status = .opened
      ∧ e.written + (laneOffers v).length < e.capacity ∧ (laneOffers v).length < 4) →
    ((v.state ≠ .running ∨ v.sending ≠ none) → handOn l s = s)
    ∧ (v.reoffer = [] → v.cursor = none → handOn l s = s)
    ∧ (∀ n, (v.reoffer.head? = some n ∨ v.reoffer = [] ∧ v.cursor = some n ∧ n ∉ v.gaps) → ¬room n → handOn l s = s)
    ∧ (∀ n, v.state = .running → v.sending = none → v.reoffer = [] → v.cursor = some n → n ∈ v.gaps →
      handOn l s = { s with shelf := s.shelf.set l { v with
        gaps := v.gaps.erase n, cursor := (if n = 16777215 then none else some (n + 1)), sending := some (.gap n) } })
    ∧ ∀ n place (o : Offer), v.state = .running → v.sending = none →
      (v.reoffer.head? = some n ∨ v.reoffer = [] ∧ v.cursor = some n ∧ n ∉ v.gaps) → room n →
      place = (match e.freePlaces with
        | [] => e.nextPlace
        | q :: _ => q) →
      o = { number := v.offerCounter, frame := n, entry := v.current, place := place
            block := (e.startBlock + place * v.blocksPerFrame) % 281474976710656, timer := none } →
      ∃ t, handOn l s = t ∧ t = { s with shelf := t.shelf, slots := t.slots }
        ∧ t.shelf.get (otherLane l) = s.shelf.get (otherLane l)
        ∧ t.shelf.get l = { v with
            offerCounter := v.offerCounter + 1, sending := some (.frame o 0), reoffer := v.reoffer.tail
            cursor := (if v.reoffer = [] then (if n = 16777215 then none else some (n + 1)) else v.cursor)
            entries := v.entries.set v.current { e with
              nextPlace := (if e.freePlaces = [] then e.nextPlace + 1 else e.nextPlace), freePlaces := e.freePlaces.tail } }
        ∧ frameSlot l n t = (frameSlot l n s).map (fun x => { x with
            stage := .offered, offer := some v.offerCounter, entry := some v.current, ack := .outstanding })
        ∧ (∀ m, m ≠ n → frameSlot l m t = frameSlot l m s) ∧ ∀ m, frameSlot (otherLane l) m t = frameSlot (otherLane l) m s)
  ∧ (∀ (s : State) (l : Lane), handOn l (settle s) = settle s ∧ drainComplete l (settle s) = false)
  ∧ ∀ (s : State) (l : Lane) (done : Prop), (done ↔ (s.lane.get l).state = .draining ∧ laneSlots l s = []
      ∧ (s.reg.get l).pendingFrame = none ∧ (s.shelf.get l).gaps = [] ∧ gapHandedOn (s.shelf.get l) = none) →
    (¬done → tryDrain l s = s)
    ∧ (done → ∃ t, tryDrain l s = t
      ∧ t.lane.get l = { s.lane.get l with state := .idle, noticeOverflow := (t.lane.get l).noticeOverflow }
      ∧ (t.alarms.get l).pace = .hold
      ∧ t.cond.get l = { condition := .finalised, record := finalRecord s.housing false (s.cond.get l).record }
      ∧ t.condQueue = placeCondition l (finalRecord s.housing false (s.cond.get l).record) s.condQueue
      ∧ t.cues.get l = (if (s.cues.get l).armed then
          { active := (s.cues.get l).shadow, shadow := (s.cues.get l).active, armed := false } else s.cues.get l)
      ∧ t = { s with lane := t.lane, alarms := t.alarms, intake := t.intake, cond := t.cond, cues := t.cues
                     condQueue := t.condQueue, archive := { s.archive with notices := t.archive.notices } }
      ∧ t.lane.get (otherLane l) = s.lane.get (otherLane l) ∧ t.alarms.get (otherLane l) = s.alarms.get (otherLane l)
      ∧ t.cond.get (otherLane l) = s.cond.get (otherLane l) ∧ t.cues.get (otherLane l) = s.cues.get (otherLane l)
      ∧ t.intake.get (otherLane l) = s.intake.get (otherLane l))

/-! ### Laws that every step keeps -/

/-- Every step keeps the Frame Store's law (R46, R50, R62, R63): 24 slots, at most 16 of a lane, each lane's shortfall kept free, each
occupancy level the one the table of R62 gives for the held count, marks in their ranges. -/
def Obligations.SlotLawKept : Prop := ∀ s t : State, SlotLaw s → step s = .next t → SlotLaw t

/-- Every step keeps pace levels (R132), causes of the LINK and ALARM pause sources (R139) and shelving states (R141) in
agreement with what they follow. -/
def Obligations.PaceAndPauseKept : Prop :=
  ∀ s t : State, (∀ l, PaceLaw l s ∧ CauseLaw l s ∧ PauseLaw (s.shelf.get l)) → step s = .next t →
    ∀ l, PaceLaw l t ∧ CauseLaw l t ∧ PauseLaw (t.shelf.get l)

/-- Every step keeps the shelf law of both lanes (R137, R139, R143, R145). -/
def Obligations.ShelfLawKept : Prop :=
  ∀ s t : State, (∀ l, ShelfLaw (s.shelf.get l)) → step s = .next t → ∀ l, ShelfLaw (t.shelf.get l)

/-- Every step keeps queue sizes (R167, R172, R176), the condition record OPEN exactly in a pass (R159), and table sizes
(R76, R101, R105, R137). -/
def Obligations.QueuesAndRecordsKept : Prop :=
  ∀ s t : State, QueueLaw s → (∀ l, RecordLaw l s) → TableLaw s → step s = .next t →
    QueueLaw t ∧ (∀ l, RecordLaw l t) ∧ TableLaw t

/-- Every step keeps what the blocks hold of a lane's frames (R9, R42, R50 to R53, R58 to R60, R66, R67, R83 to R85, R96, R112, R145),
and with it the balance of R18: frames numbered are those shelved, gapped, discarded, or held and not acknowledged. The eligibility
of a frame is R66's definition (log entry 18). -/
def Obligations.PassLawKept : Prop := ∀ s t : State, (∀ l, PassLaw l s) → step s = .next t → ∀ l, PassLaw l t

/-- Every step keeps the strip buffers' law (R23, R25, R26). -/
def Obligations.StripLawKept : Prop :=
  ∀ s t : State, (∀ l, StripLaw l s) → step s = .next t → ∀ l, StripLaw l t

/-- A pass keeps its tables: but for a power-on reset, no step changes the profile or the rules of a lane that is not IDLE (R4,
R77), or the contents of a live bank (R103), or makes a complete bank incomplete (R101). -/
def Obligations.TablesFixedInPass : Prop :=
  ∀ (s t : State) (c : Instr) (rest : List Instr), TableLaw s → s.pending = c :: rest → (∀ b, c ≠ .powerOnReset b) →
    step s = .next t →
    (∀ l, (s.lane.get l).state ≠ .idle → t.profile.get l = s.profile.get l ∧ t.rules.get l = s.rules.get l)
    ∧ ∀ n, (bankLive n s = true → bankAt t n = bankAt s n)
      ∧ (n < 8 → bankComplete (bankAt s n) = true → bankComplete (bankAt t n) = true)

/-- The state after power-on meets every law. -/
def Obligations.ResetMeetsLaws : Prop :=
  SlotLaw State.reset ∧ QueueLaw State.reset ∧ TableLaw State.reset
    ∧ ∀ l, PaceLaw l State.reset ∧ CauseLaw l State.reset ∧ PauseLaw (State.reset.shelf.get l)
      ∧ ShelfLaw (State.reset.shelf.get l) ∧ PassLaw l State.reset ∧ StripLaw l State.reset

/-! ### Encodings -/

/-- Every inbound cell, as its sender lays it out (R170, R179 to R182), arrives as the command it stands for, with every field
at every value: no bit of it is dropped, and no cell so sent is dropped by the checks. -/
def Obligations.CellsArriveAsSent : Prop :=
  (∀ (l : Lane) (n : LineNumber) (px : List Pixel) (last : Bool), px.length ≤ 30 →
    arrival (.intake l) (lineWire l n px last) = some (.lineCell l n px last))
  ∧ (∀ (l : Lane) (q : Position), arrival (.intake l) (perfWire l q) = some (.perfCell l q))
  ∧ (∀ (l : Lane) (x : Tension) (q : Option Position),
    arrival (.intake l) (transportWire l x q) = some (.transportCell l x q))
  ∧ (∀ (lane : Byte) (n : OfferNumber) (result : Byte),
    arrival .archive (ackWire lane n result) = some (.storeAck lane n result))
  ∧ ∀ (i : Instr) (code : Byte) (c : CommandCell), cellOf i = some (code, c) → c.payload.length ≤ 240 →
    arrival .archive (commandWire code c) = some i

/-- Every table record, laid out as R183 says, reads back as itself, whatever follows it in the payload, where it is in its
ranges (R3, R76, R105, R137, R163). -/
def Obligations.TableRecordsReadBack : Prop :=
  (∀ p : Profile, profileInRange p = true → p.bands.length = 4 → (profileBytes p).length = 47
    ∧ readProfile (profileBytes p) = some p)
  ∧ (∀ (r : ClassifierRule) (rest : List Byte), ruleInRange r = true → (ruleBytes r).length = 20
    ∧ readRule (ruleBytes r ++ rest) = some r)
  ∧ (∀ (e : CueEntry) (rest : List Byte), cueInRange e = true → (cueBytes e).length = 12
    ∧ readCue (cueBytes e ++ rest) = some e)
  ∧ (∀ (h : HousingTable), (∀ e ∈ [h.e1, h.e2, h.e3], criterionInRange e.ratioBelow 2097151 = true
        ∧ criterionInRange e.permille 1000 = true ∧ criterionInRange e.lostEpisodes 65535 = true
        ∧ criterionInRange e.baseShifts 65535 = true) →
      (∀ m ∈ [h.m0, h.m1, h.m2, h.m3], monthsInRange m = true) →
      (housingBytes h).length = 46 ∧ readHousing (housingBytes h) = some h)
  ∧ ∀ (e : ShelfEntry) (rest : List Byte), e.volume < 65536 → e.startBlock < 2 ^ 48 → 1 ≤ e.capacity → e.capacity < 65536 →
    (shelfEntryBytes e).length = 11 ∧ readShelfEntry (shelfEntryBytes e ++ rest) = some { e with
      status := .ready, written := 0, remaining := e.capacity, firstFailed := none, nextPlace := 0, freePlaces := [] }

/-! ### Arithmetic -/

/-- Smoothing (R40), extraction (R43), temporal mean (R90) and spatial repair (R91): the formulas, and that each result lies
between the values it is made from. -/
def Obligations.InterpolationStaysBetween : Prop :=
  (∀ (g rp rc : Nat) (unsmoothed : Bool), appliedRatio g unsmoothed none rc = rc ∧ appliedRatio g true (some rp) rc = rc
    ∧ appliedRatio 0 unsmoothed (some rp) rc = rc
    ∧ (0 < g → ((appliedRatio g false (some rp) rc : Nat) : Int)
          = rp + ((rc : Int) - rp + 2 ^ (g - 1)) / 2 ^ g)
    ∧ min rp rc ≤ appliedRatio g unsmoothed (some rp) rc ∧ appliedRatio g unsmoothed (some rp) rc ≤ max rp rc)
  ∧ (∀ (f : Nat) (a b : Sample), f < 16 → (mixSample f a b).toNat = (a.toNat * (16 - f) + b.toNat * f + 8) / 16
    ∧ min a.toNat b.toNat ≤ (mixSample f a b).toNat ∧ (mixSample f a b).toNat ≤ max a.toNat b.toNat)
  ∧ (∀ a b : Sample, (meanSample a b).toNat = (a.toNat + b.toNat + 1) / 2
    ∧ min a.toNat b.toNat ≤ (meanSample a b).toNat ∧ (meanSample a b).toNat ≤ max a.toNat b.toNat)
  ∧ ∀ (w t : Nat) (a b : Sample), 1 ≤ t → t ≤ w →
    (spatialSample w t a b).toNat = (a.toNat * (w + 1 - t) + b.toNat * t + (w + 1) / 2) / (w + 1)
    ∧ min a.toNat b.toNat ≤ (spatialSample w t a b).toNat ∧ (spatialSample w t a b).toNat ≤ max a.toNat b.toNat

/-- R104: a bank passes every R, G and B sample of every pixel through its channel's curve, the output lying between two
neighbouring entries, IR left as it was; the NEUTRAL grade leaves every sample. -/
def Obligations.CurveArithmetic : Prop :=
  (∀ (c : List CurveEntry) (x : Sample) (i f : Nat), c.length = 257 → i = x.toNat / 256 → f = x.toNat % 256 →
    i ≤ 255 ∧ (curveSample c x).toNat = (curveValue c i * (256 - f) + curveValue c (i + 1) * f + 128) / 256
    ∧ min (curveValue c i) (curveValue c (i + 1)) ≤ (curveSample c x).toNat
    ∧ (curveSample c x).toNat ≤ max (curveValue c i) (curveValue c (i + 1))
    ∧ (f = 0 → (curveSample c x).toNat = curveValue c i))
  ∧ ∀ (s : State) (n : Nat) (b : Bank) (picture : List (List Pixel)), bankAt s n = b →
    gradePicture s .neutral picture = picture
    ∧ (gradePicture s (.bank n) picture).map List.length = picture.map List.length
    ∧ ∀ (y x : Nat) (p : Pixel), (picture[y]?).bind (fun samples => samples[x]?) = some p →
      ((gradePicture s (.bank n) picture)[y]?).bind (fun samples => samples[x]?)
        = some { r := curveSample b.r p.r, g := curveSample b.g p.g, b := curveSample b.b p.b, ir := p.ir : Pixel }

/-- R75 and R78: a record has band hit where it shares a column with a present scratch band; the lowest valid rule whose every
condition holds gives index and action, and without one the profile's default action applies. The kept records of a frame are
so classified, each apart from the others. -/
def Obligations.Classification : Prop :=
  ∀ (rules : List ClassifierRule) (p : Profile) (previous : List DefectRecord) (b : RecordBox) (d : DefectRecord),
    b.x0 ≤ b.x1 → b.y0 ≤ b.y1 → (∀ c : Columns, some c ∈ p.bands → c.x0 ≤ c.x1) → d = classify rules p previous b →
    (d.bandHit = true ↔ ∃ c : Columns, some c ∈ p.bands ∧ ∃ x, b.x0 ≤ x ∧ x ≤ b.x1 ∧ c.x0 ≤ x ∧ x ≤ c.x1)
    ∧ (∀ holds : ClassifierRule → Prop,
        (∀ r, holds r ↔ r.valid = true ∧ r.areaMin ≤ b.area ∧ b.area ≤ r.areaMax
          ∧ r.widthMin ≤ b.x1 - b.x0 + 1 ∧ b.x1 - b.x0 + 1 ≤ r.widthMax
          ∧ r.heightMin ≤ b.y1 - b.y0 + 1 ∧ b.y1 - b.y0 + 1 ≤ r.heightMax
          ∧ (r.persistence = .yes → d.persistence = true) ∧ (r.persistence = .no → d.persistence = false)
          ∧ (r.band = .yes → d.bandHit = true) ∧ (r.band = .no → d.bandHit = false)) →
        (∀ i r, rules[i]? = some r → holds r → (∀ j r', j < i → rules[j]? = some r' → ¬holds r') →
          d.rule = some i ∧ d.action = r.action)
        ∧ ((∀ r ∈ rules, ¬holds r) → d.rule = none ∧ d.action = p.defaultAction))
    ∧ ∀ picture, (defectList rules p previous picture).records
        = ((completedRecords p.irThreshold picture).take 32).map (classify rules p previous)

/-- R166: with no frame numbered the class is 3 and NO_FRAMES is set; otherwise it is the first of the entries 3, 2, 1 that is
met, 0 if none is, and NO_FRAMES stays clear; an entry is met where one of its criteria that is not NONE holds of the record;
the re-inspection months are those of the class's entry, 0 with a table never written. -/
def Obligations.HousingClass : Prop :=
  ∀ (t : HousingTable) (aborted : Bool) (c r : ConditionRecord) (met : HousingEntry → Prop),
    r = finalRecord t aborted c →
    (∀ e, met e ↔ (∃ v m, e.ratioBelow = some v ∧ c.ratioMin = some m ∧ m < v) ∨ (∃ v, e.permille = some v ∧ v ≤ r.permille)
      ∨ (∃ v, e.lostEpisodes = some v ∧ v ≤ c.lostEpisodes) ∨ (∃ v, e.baseShifts = some v ∧ v ≤ c.baseShifts)) →
    (c.numbered = 0 → r.housing = some 3 ∧ r.noFrames = true ∧ r.months = some t.m3 ∧ r.permille = 0)
    ∧ (c.numbered ≠ 0 → r.noFrames = false ∧ r.permille = 1000 * c.partialFrames / c.numbered
      ∧ (met t.e3 → r.housing = some 3 ∧ r.months = some t.m3)
      ∧ (¬met t.e3 → met t.e2 → r.housing = some 2 ∧ r.months = some t.m2)
      ∧ (¬met t.e3 → ¬met t.e2 → met t.e1 → r.housing = some 1 ∧ r.months = some t.m1)
      ∧ (¬met t.e3 → ¬met t.e2 → ¬met t.e1 → r.housing = some 0 ∧ r.months = some t.m0))
    ∧ (t = State.reset.housing → r.months = some 0)
end

