-- ==== Sys2Proof/Laws/State.lean ====
section
/-! SUPPORT. The small lemmas of State: the two lanes' values, and for each update what every field of State is after it, so
that no proof unfolds a record update. -/

namespace Sys2Proof.Machine

/-! ### One value for each lane -/

variable {α : Type}

@[simp] theorem PerLane.get_set_self (p : PerLane α) (l : Lane) (x : α) : (p.set l x).get l = x := by cases l <;> rfl

@[simp] theorem PerLane.get_set_of_ne (p : PerLane α) {l m : Lane} (x : α) (h : m ≠ l) :
    (p.set l x).get m = p.get m := by
  cases l <;> cases m <;> first | rfl | exact absurd rfl h

@[simp] theorem PerLane.get_mod_self (p : PerLane α) (l : Lane) (f : α → α) : (p.mod l f).get l = f (p.get l) := by
  cases l <;> rfl

@[simp] theorem PerLane.get_mod_of_ne (p : PerLane α) {l m : Lane} (f : α → α) (h : m ≠ l) :
    (p.mod l f).get m = p.get m := PerLane.get_set_of_ne p _ h

@[simp] theorem PerLane.set_get (p : PerLane α) (l : Lane) : p.set l (p.get l) = p := by cases l <;> rfl

@[simp] theorem PerLane.set_set (p : PerLane α) (l : Lane) (x y : α) : (p.set l x).set l y = p.set l y := by
  cases l <;> rfl

@[simp] theorem get_both (x : α) (l : Lane) : (both x).get l = x := by cases l <;> rfl

theorem otherLane_ne (l : Lane) : otherLane l ≠ l := by cases l <;> decide

@[simp] theorem laneOfByte_laneByte (l : Lane) : laneOfByte (laneByte l) = some l := by cases l <;> rfl

/-! ### Each field after each update -/

@[simp] theorem updArchive_part (f : ArchivePort → ArchivePort) (s : State) : (updArchive f s).part = s.part := rfl
@[simp] theorem updArchive_archive (f : ArchivePort → ArchivePort) (s : State) :
    (updArchive f s).archive = f s.archive := rfl
@[simp] theorem updArchive_intake (f : ArchivePort → ArchivePort) (s : State) :
    (updArchive f s).intake = s.intake := rfl
@[simp] theorem updArchive_lane (f : ArchivePort → ArchivePort) (s : State) : (updArchive f s).lane = s.lane := rfl
@[simp] theorem updArchive_profile (f : ArchivePort → ArchivePort) (s : State) :
    (updArchive f s).profile = s.profile := rfl
@[simp] theorem updArchive_reg (f : ArchivePort → ArchivePort) (s : State) : (updArchive f s).reg = s.reg := rfl
@[simp] theorem updArchive_slots (f : ArchivePort → ArchivePort) (s : State) : (updArchive f s).slots = s.slots := rfl
@[simp] theorem updArchive_requests (f : ArchivePort → ArchivePort) (s : State) :
    (updArchive f s).requests = s.requests := rfl
@[simp] theorem updArchive_occupancy (f : ArchivePort → ArchivePort) (s : State) :
    (updArchive f s).occupancy = s.occupancy := rfl
@[simp] theorem updArchive_rules (f : ArchivePort → ArchivePort) (s : State) : (updArchive f s).rules = s.rules := rfl
@[simp] theorem updArchive_defect (f : ArchivePort → ArchivePort) (s : State) :
    (updArchive f s).defect = s.defect := rfl
@[simp] theorem updArchive_repair (f : ArchivePort → ArchivePort) (s : State) :
    (updArchive f s).repair = s.repair := rfl
@[simp] theorem updArchive_banks (f : ArchivePort → ArchivePort) (s : State) : (updArchive f s).banks = s.banks := rfl
@[simp] theorem updArchive_cues (f : ArchivePort → ArchivePort) (s : State) : (updArchive f s).cues = s.cues := rfl
@[simp] theorem updArchive_grading (f : ArchivePort → ArchivePort) (s : State) :
    (updArchive f s).grading = s.grading := rfl
@[simp] theorem updArchive_alarms (f : ArchivePort → ArchivePort) (s : State) :
    (updArchive f s).alarms = s.alarms := rfl
@[simp] theorem updArchive_shelf (f : ArchivePort → ArchivePort) (s : State) : (updArchive f s).shelf = s.shelf := rfl
@[simp] theorem updArchive_cond (f : ArchivePort → ArchivePort) (s : State) : (updArchive f s).cond = s.cond := rfl
@[simp] theorem updArchive_condQueue (f : ArchivePort → ArchivePort) (s : State) :
    (updArchive f s).condQueue = s.condQueue := rfl
@[simp] theorem updArchive_housing (f : ArchivePort → ArchivePort) (s : State) :
    (updArchive f s).housing = s.housing := rfl
@[simp] theorem updArchive_mask (f : ArchivePort → ArchivePort) (s : State) : (updArchive f s).mask = s.mask := rfl
@[simp] theorem updArchive_freeIndex (f : ArchivePort → ArchivePort) (s : State) :
    (updArchive f s).freeIndex = s.freeIndex := rfl
@[simp] theorem updArchive_pending (f : ArchivePort → ArchivePort) (s : State) :
    (updArchive f s).pending = s.pending := rfl

@[simp] theorem updIntake_part (l : Lane) (f : IntakePort → IntakePort) (s : State) :
    (updIntake l f s).part = s.part := rfl
@[simp] theorem updIntake_archive (l : Lane) (f : IntakePort → IntakePort) (s : State) :
    (updIntake l f s).archive = s.archive := rfl
@[simp] theorem updIntake_intake (l : Lane) (f : IntakePort → IntakePort) (s : State) :
    (updIntake l f s).intake = s.intake.mod l f := rfl
@[simp] theorem updIntake_lane (l : Lane) (f : IntakePort → IntakePort) (s : State) :
    (updIntake l f s).lane = s.lane := rfl
@[simp] theorem updIntake_profile (l : Lane) (f : IntakePort → IntakePort) (s : State) :
    (updIntake l f s).profile = s.profile := rfl
@[simp] theorem updIntake_reg (l : Lane) (f : IntakePort → IntakePort) (s : State) :
    (updIntake l f s).reg = s.reg := rfl
@[simp] theorem updIntake_slots (l : Lane) (f : IntakePort → IntakePort) (s : State) :
    (updIntake l f s).slots = s.slots := rfl
@[simp] theorem updIntake_requests (l : Lane) (f : IntakePort → IntakePort) (s : State) :
    (updIntake l f s).requests = s.requests := rfl
@[simp] theorem updIntake_occupancy (l : Lane) (f : IntakePort → IntakePort) (s : State) :
    (updIntake l f s).occupancy = s.occupancy := rfl
@[simp] theorem updIntake_rules (l : Lane) (f : IntakePort → IntakePort) (s : State) :
    (updIntake l f s).rules = s.rules := rfl
@[simp] theorem updIntake_defect (l : Lane) (f : IntakePort → IntakePort) (s : State) :
    (updIntake l f s).defect = s.defect := rfl
@[simp] theorem updIntake_repair (l : Lane) (f : IntakePort → IntakePort) (s : State) :
    (updIntake l f s).repair = s.repair := rfl
@[simp] theorem updIntake_banks (l : Lane) (f : IntakePort → IntakePort) (s : State) :
    (updIntake l f s).banks = s.banks := rfl
@[simp] theorem updIntake_cues (l : Lane) (f : IntakePort → IntakePort) (s : State) :
    (updIntake l f s).cues = s.cues := rfl
@[simp] theorem updIntake_grading (l : Lane) (f : IntakePort → IntakePort) (s : State) :
    (updIntake l f s).grading = s.grading := rfl
@[simp] theorem updIntake_alarms (l : Lane) (f : IntakePort → IntakePort) (s : State) :
    (updIntake l f s).alarms = s.alarms := rfl
@[simp] theorem updIntake_shelf (l : Lane) (f : IntakePort → IntakePort) (s : State) :
    (updIntake l f s).shelf = s.shelf := rfl
@[simp] theorem updIntake_cond (l : Lane) (f : IntakePort → IntakePort) (s : State) :
    (updIntake l f s).cond = s.cond := rfl
@[simp] theorem updIntake_condQueue (l : Lane) (f : IntakePort → IntakePort) (s : State) :
    (updIntake l f s).condQueue = s.condQueue := rfl
@[simp] theorem updIntake_housing (l : Lane) (f : IntakePort → IntakePort) (s : State) :
    (updIntake l f s).housing = s.housing := rfl
@[simp] theorem updIntake_mask (l : Lane) (f : IntakePort → IntakePort) (s : State) :
    (updIntake l f s).mask = s.mask := rfl
@[simp] theorem updIntake_freeIndex (l : Lane) (f : IntakePort → IntakePort) (s : State) :
    (updIntake l f s).freeIndex = s.freeIndex := rfl
@[simp] theorem updIntake_pending (l : Lane) (f : IntakePort → IntakePort) (s : State) :
    (updIntake l f s).pending = s.pending := rfl

@[simp] theorem updLane_part (l : Lane) (f : LaneRecord → LaneRecord) (s : State) :
    (updLane l f s).part = s.part := rfl
@[simp] theorem updLane_archive (l : Lane) (f : LaneRecord → LaneRecord) (s : State) :
    (updLane l f s).archive = s.archive := rfl
@[simp] theorem updLane_intake (l : Lane) (f : LaneRecord → LaneRecord) (s : State) :
    (updLane l f s).intake = s.intake := rfl
@[simp] theorem updLane_lane (l : Lane) (f : LaneRecord → LaneRecord) (s : State) :
    (updLane l f s).lane = s.lane.mod l f := rfl
@[simp] theorem updLane_profile (l : Lane) (f : LaneRecord → LaneRecord) (s : State) :
    (updLane l f s).profile = s.profile := rfl
@[simp] theorem updLane_reg (l : Lane) (f : LaneRecord → LaneRecord) (s : State) : (updLane l f s).reg = s.reg := rfl
@[simp] theorem updLane_slots (l : Lane) (f : LaneRecord → LaneRecord) (s : State) :
    (updLane l f s).slots = s.slots := rfl
@[simp] theorem updLane_requests (l : Lane) (f : LaneRecord → LaneRecord) (s : State) :
    (updLane l f s).requests = s.requests := rfl
@[simp] theorem updLane_occupancy (l : Lane) (f : LaneRecord → LaneRecord) (s : State) :
    (updLane l f s).occupancy = s.occupancy := rfl
@[simp] theorem updLane_rules (l : Lane) (f : LaneRecord → LaneRecord) (s : State) :
    (updLane l f s).rules = s.rules := rfl
@[simp] theorem updLane_defect (l : Lane) (f : LaneRecord → LaneRecord) (s : State) :
    (updLane l f s).defect = s.defect := rfl
@[simp] theorem updLane_repair (l : Lane) (f : LaneRecord → LaneRecord) (s : State) :
    (updLane l f s).repair = s.repair := rfl
@[simp] theorem updLane_banks (l : Lane) (f : LaneRecord → LaneRecord) (s : State) :
    (updLane l f s).banks = s.banks := rfl
@[simp] theorem updLane_cues (l : Lane) (f : LaneRecord → LaneRecord) (s : State) :
    (updLane l f s).cues = s.cues := rfl
@[simp] theorem updLane_grading (l : Lane) (f : LaneRecord → LaneRecord) (s : State) :
    (updLane l f s).grading = s.grading := rfl
@[simp] theorem updLane_alarms (l : Lane) (f : LaneRecord → LaneRecord) (s : State) :
    (updLane l f s).alarms = s.alarms := rfl
@[simp] theorem updLane_shelf (l : Lane) (f : LaneRecord → LaneRecord) (s : State) :
    (updLane l f s).shelf = s.shelf := rfl
@[simp] theorem updLane_cond (l : Lane) (f : LaneRecord → LaneRecord) (s : State) :
    (updLane l f s).cond = s.cond := rfl
@[simp] theorem updLane_condQueue (l : Lane) (f : LaneRecord → LaneRecord) (s : State) :
    (updLane l f s).condQueue = s.condQueue := rfl
@[simp] theorem updLane_housing (l : Lane) (f : LaneRecord → LaneRecord) (s : State) :
    (updLane l f s).housing = s.housing := rfl
@[simp] theorem updLane_mask (l : Lane) (f : LaneRecord → LaneRecord) (s : State) :
    (updLane l f s).mask = s.mask := rfl
@[simp] theorem updLane_freeIndex (l : Lane) (f : LaneRecord → LaneRecord) (s : State) :
    (updLane l f s).freeIndex = s.freeIndex := rfl
@[simp] theorem updLane_pending (l : Lane) (f : LaneRecord → LaneRecord) (s : State) :
    (updLane l f s).pending = s.pending := rfl

@[simp] theorem setProfile_part (l : Lane) (p : Profile) (s : State) : (setProfile l p s).part = s.part := rfl
@[simp] theorem setProfile_archive (l : Lane) (p : Profile) (s : State) :
    (setProfile l p s).archive = s.archive := rfl
@[simp] theorem setProfile_intake (l : Lane) (p : Profile) (s : State) : (setProfile l p s).intake = s.intake := rfl
@[simp] theorem setProfile_lane (l : Lane) (p : Profile) (s : State) : (setProfile l p s).lane = s.lane := rfl
@[simp] theorem setProfile_profile (l : Lane) (p : Profile) (s : State) :
    (setProfile l p s).profile = s.profile.set l p := rfl
@[simp] theorem setProfile_reg (l : Lane) (p : Profile) (s : State) : (setProfile l p s).reg = s.reg := rfl
@[simp] theorem setProfile_slots (l : Lane) (p : Profile) (s : State) : (setProfile l p s).slots = s.slots := rfl
@[simp] theorem setProfile_requests (l : Lane) (p : Profile) (s : State) :
    (setProfile l p s).requests = s.requests := rfl
@[simp] theorem setProfile_occupancy (l : Lane) (p : Profile) (s : State) :
    (setProfile l p s).occupancy = s.occupancy := rfl
@[simp] theorem setProfile_rules (l : Lane) (p : Profile) (s : State) : (setProfile l p s).rules = s.rules := rfl
@[simp] theorem setProfile_defect (l : Lane) (p : Profile) (s : State) : (setProfile l p s).defect = s.defect := rfl
@[simp] theorem setProfile_repair (l : Lane) (p : Profile) (s : State) : (setProfile l p s).repair = s.repair := rfl
@[simp] theorem setProfile_banks (l : Lane) (p : Profile) (s : State) : (setProfile l p s).banks = s.banks := rfl
@[simp] theorem setProfile_cues (l : Lane) (p : Profile) (s : State) : (setProfile l p s).cues = s.cues := rfl
@[simp] theorem setProfile_grading (l : Lane) (p : Profile) (s : State) :
    (setProfile l p s).grading = s.grading := rfl
@[simp] theorem setProfile_alarms (l : Lane) (p : Profile) (s : State) : (setProfile l p s).alarms = s.alarms := rfl
@[simp] theorem setProfile_shelf (l : Lane) (p : Profile) (s : State) : (setProfile l p s).shelf = s.shelf := rfl
@[simp] theorem setProfile_cond (l : Lane) (p : Profile) (s : State) : (setProfile l p s).cond = s.cond := rfl
@[simp] theorem setProfile_condQueue (l : Lane) (p : Profile) (s : State) :
    (setProfile l p s).condQueue = s.condQueue := rfl
@[simp] theorem setProfile_housing (l : Lane) (p : Profile) (s : State) :
    (setProfile l p s).housing = s.housing := rfl
@[simp] theorem setProfile_mask (l : Lane) (p : Profile) (s : State) : (setProfile l p s).mask = s.mask := rfl
@[simp] theorem setProfile_freeIndex (l : Lane) (p : Profile) (s : State) :
    (setProfile l p s).freeIndex = s.freeIndex := rfl
@[simp] theorem setProfile_pending (l : Lane) (p : Profile) (s : State) :
    (setProfile l p s).pending = s.pending := rfl

@[simp] theorem updReg_part (l : Lane) (f : RegUnit → RegUnit) (s : State) : (updReg l f s).part = s.part := rfl
@[simp] theorem updReg_archive (l : Lane) (f : RegUnit → RegUnit) (s : State) :
    (updReg l f s).archive = s.archive := rfl
@[simp] theorem updReg_intake (l : Lane) (f : RegUnit → RegUnit) (s : State) : (updReg l f s).intake = s.intake := rfl
@[simp] theorem updReg_lane (l : Lane) (f : RegUnit → RegUnit) (s : State) : (updReg l f s).lane = s.lane := rfl
@[simp] theorem updReg_profile (l : Lane) (f : RegUnit → RegUnit) (s : State) :
    (updReg l f s).profile = s.profile := rfl
@[simp] theorem updReg_reg (l : Lane) (f : RegUnit → RegUnit) (s : State) : (updReg l f s).reg = s.reg.mod l f := rfl
@[simp] theorem updReg_slots (l : Lane) (f : RegUnit → RegUnit) (s : State) : (updReg l f s).slots = s.slots := rfl
@[simp] theorem updReg_requests (l : Lane) (f : RegUnit → RegUnit) (s : State) :
    (updReg l f s).requests = s.requests := rfl
@[simp] theorem updReg_occupancy (l : Lane) (f : RegUnit → RegUnit) (s : State) :
    (updReg l f s).occupancy = s.occupancy := rfl
@[simp] theorem updReg_rules (l : Lane) (f : RegUnit → RegUnit) (s : State) : (updReg l f s).rules = s.rules := rfl
@[simp] theorem updReg_defect (l : Lane) (f : RegUnit → RegUnit) (s : State) : (updReg l f s).defect = s.defect := rfl
@[simp] theorem updReg_repair (l : Lane) (f : RegUnit → RegUnit) (s : State) : (updReg l f s).repair = s.repair := rfl
@[simp] theorem updReg_banks (l : Lane) (f : RegUnit → RegUnit) (s : State) : (updReg l f s).banks = s.banks := rfl
@[simp] theorem updReg_cues (l : Lane) (f : RegUnit → RegUnit) (s : State) : (updReg l f s).cues = s.cues := rfl
@[simp] theorem updReg_grading (l : Lane) (f : RegUnit → RegUnit) (s : State) :
    (updReg l f s).grading = s.grading := rfl
@[simp] theorem updReg_alarms (l : Lane) (f : RegUnit → RegUnit) (s : State) : (updReg l f s).alarms = s.alarms := rfl
@[simp] theorem updReg_shelf (l : Lane) (f : RegUnit → RegUnit) (s : State) : (updReg l f s).shelf = s.shelf := rfl
@[simp] theorem updReg_cond (l : Lane) (f : RegUnit → RegUnit) (s : State) : (updReg l f s).cond = s.cond := rfl
@[simp] theorem updReg_condQueue (l : Lane) (f : RegUnit → RegUnit) (s : State) :
    (updReg l f s).condQueue = s.condQueue := rfl
@[simp] theorem updReg_housing (l : Lane) (f : RegUnit → RegUnit) (s : State) :
    (updReg l f s).housing = s.housing := rfl
@[simp] theorem updReg_mask (l : Lane) (f : RegUnit → RegUnit) (s : State) : (updReg l f s).mask = s.mask := rfl
@[simp] theorem updReg_freeIndex (l : Lane) (f : RegUnit → RegUnit) (s : State) :
    (updReg l f s).freeIndex = s.freeIndex := rfl
@[simp] theorem updReg_pending (l : Lane) (f : RegUnit → RegUnit) (s : State) :
    (updReg l f s).pending = s.pending := rfl

@[simp] theorem updSlots_part (f : List (Option Slot) → List (Option Slot)) (s : State) :
    (updSlots f s).part = s.part := rfl
@[simp] theorem updSlots_archive (f : List (Option Slot) → List (Option Slot)) (s : State) :
    (updSlots f s).archive = s.archive := rfl
@[simp] theorem updSlots_intake (f : List (Option Slot) → List (Option Slot)) (s : State) :
    (updSlots f s).intake = s.intake := rfl
@[simp] theorem updSlots_lane (f : List (Option Slot) → List (Option Slot)) (s : State) :
    (updSlots f s).lane = s.lane := rfl
@[simp] theorem updSlots_profile (f : List (Option Slot) → List (Option Slot)) (s : State) :
    (updSlots f s).profile = s.profile := rfl
@[simp] theorem updSlots_reg (f : List (Option Slot) → List (Option Slot)) (s : State) :
    (updSlots f s).reg = s.reg := rfl
@[simp] theorem updSlots_slots (f : List (Option Slot) → List (Option Slot)) (s : State) :
    (updSlots f s).slots = f s.slots := rfl
@[simp] theorem updSlots_requests (f : List (Option Slot) → List (Option Slot)) (s : State) :
    (updSlots f s).requests = s.requests := rfl
@[simp] theorem updSlots_occupancy (f : List (Option Slot) → List (Option Slot)) (s : State) :
    (updSlots f s).occupancy = s.occupancy := rfl
@[simp] theorem updSlots_rules (f : List (Option Slot) → List (Option Slot)) (s : State) :
    (updSlots f s).rules = s.rules := rfl
@[simp] theorem updSlots_defect (f : List (Option Slot) → List (Option Slot)) (s : State) :
    (updSlots f s).defect = s.defect := rfl
@[simp] theorem updSlots_repair (f : List (Option Slot) → List (Option Slot)) (s : State) :
    (updSlots f s).repair = s.repair := rfl
@[simp] theorem updSlots_banks (f : List (Option Slot) → List (Option Slot)) (s : State) :
    (updSlots f s).banks = s.banks := rfl
@[simp] theorem updSlots_cues (f : List (Option Slot) → List (Option Slot)) (s : State) :
    (updSlots f s).cues = s.cues := rfl
@[simp] theorem updSlots_grading (f : List (Option Slot) → List (Option Slot)) (s : State) :
    (updSlots f s).grading = s.grading := rfl
@[simp] theorem updSlots_alarms (f : List (Option Slot) → List (Option Slot)) (s : State) :
    (updSlots f s).alarms = s.alarms := rfl
@[simp] theorem updSlots_shelf (f : List (Option Slot) → List (Option Slot)) (s : State) :
    (updSlots f s).shelf = s.shelf := rfl
@[simp] theorem updSlots_cond (f : List (Option Slot) → List (Option Slot)) (s : State) :
    (updSlots f s).cond = s.cond := rfl
@[simp] theorem updSlots_condQueue (f : List (Option Slot) → List (Option Slot)) (s : State) :
    (updSlots f s).condQueue = s.condQueue := rfl
@[simp] theorem updSlots_housing (f : List (Option Slot) → List (Option Slot)) (s : State) :
    (updSlots f s).housing = s.housing := rfl
@[simp] theorem updSlots_mask (f : List (Option Slot) → List (Option Slot)) (s : State) :
    (updSlots f s).mask = s.mask := rfl
@[simp] theorem updSlots_freeIndex (f : List (Option Slot) → List (Option Slot)) (s : State) :
    (updSlots f s).freeIndex = s.freeIndex := rfl
@[simp] theorem updSlots_pending (f : List (Option Slot) → List (Option Slot)) (s : State) :
    (updSlots f s).pending = s.pending := rfl

@[simp] theorem updRequests_part (f : List Lane → List Lane) (s : State) : (updRequests f s).part = s.part := rfl
@[simp] theorem updRequests_archive (f : List Lane → List Lane) (s : State) :
    (updRequests f s).archive = s.archive := rfl
@[simp] theorem updRequests_intake (f : List Lane → List Lane) (s : State) :
    (updRequests f s).intake = s.intake := rfl
@[simp] theorem updRequests_lane (f : List Lane → List Lane) (s : State) : (updRequests f s).lane = s.lane := rfl
@[simp] theorem updRequests_profile (f : List Lane → List Lane) (s : State) :
    (updRequests f s).profile = s.profile := rfl
@[simp] theorem updRequests_reg (f : List Lane → List Lane) (s : State) : (updRequests f s).reg = s.reg := rfl
@[simp] theorem updRequests_slots (f : List Lane → List Lane) (s : State) : (updRequests f s).slots = s.slots := rfl
@[simp] theorem updRequests_requests (f : List Lane → List Lane) (s : State) :
    (updRequests f s).requests = f s.requests := rfl
@[simp] theorem updRequests_occupancy (f : List Lane → List Lane) (s : State) :
    (updRequests f s).occupancy = s.occupancy := rfl
@[simp] theorem updRequests_rules (f : List Lane → List Lane) (s : State) : (updRequests f s).rules = s.rules := rfl
@[simp] theorem updRequests_defect (f : List Lane → List Lane) (s : State) :
    (updRequests f s).defect = s.defect := rfl
@[simp] theorem updRequests_repair (f : List Lane → List Lane) (s : State) :
    (updRequests f s).repair = s.repair := rfl
@[simp] theorem updRequests_banks (f : List Lane → List Lane) (s : State) : (updRequests f s).banks = s.banks := rfl
@[simp] theorem updRequests_cues (f : List Lane → List Lane) (s : State) : (updRequests f s).cues = s.cues := rfl
@[simp] theorem updRequests_grading (f : List Lane → List Lane) (s : State) :
    (updRequests f s).grading = s.grading := rfl
@[simp] theorem updRequests_alarms (f : List Lane → List Lane) (s : State) :
    (updRequests f s).alarms = s.alarms := rfl
@[simp] theorem updRequests_shelf (f : List Lane → List Lane) (s : State) : (updRequests f s).shelf = s.shelf := rfl
@[simp] theorem updRequests_cond (f : List Lane → List Lane) (s : State) : (updRequests f s).cond = s.cond := rfl
@[simp] theorem updRequests_condQueue (f : List Lane → List Lane) (s : State) :
    (updRequests f s).condQueue = s.condQueue := rfl
@[simp] theorem updRequests_housing (f : List Lane → List Lane) (s : State) :
    (updRequests f s).housing = s.housing := rfl
@[simp] theorem updRequests_mask (f : List Lane → List Lane) (s : State) : (updRequests f s).mask = s.mask := rfl
@[simp] theorem updRequests_freeIndex (f : List Lane → List Lane) (s : State) :
    (updRequests f s).freeIndex = s.freeIndex := rfl
@[simp] theorem updRequests_pending (f : List Lane → List Lane) (s : State) :
    (updRequests f s).pending = s.pending := rfl

@[simp] theorem updOccupancy_part (l : Lane) (f : Occupancy → Occupancy) (s : State) :
    (updOccupancy l f s).part = s.part := rfl
@[simp] theorem updOccupancy_archive (l : Lane) (f : Occupancy → Occupancy) (s : State) :
    (updOccupancy l f s).archive = s.archive := rfl
@[simp] theorem updOccupancy_intake (l : Lane) (f : Occupancy → Occupancy) (s : State) :
    (updOccupancy l f s).intake = s.intake := rfl
@[simp] theorem updOccupancy_lane (l : Lane) (f : Occupancy → Occupancy) (s : State) :
    (updOccupancy l f s).lane = s.lane := rfl
@[simp] theorem updOccupancy_profile (l : Lane) (f : Occupancy → Occupancy) (s : State) :
    (updOccupancy l f s).profile = s.profile := rfl
@[simp] theorem updOccupancy_reg (l : Lane) (f : Occupancy → Occupancy) (s : State) :
    (updOccupancy l f s).reg = s.reg := rfl
@[simp] theorem updOccupancy_slots (l : Lane) (f : Occupancy → Occupancy) (s : State) :
    (updOccupancy l f s).slots = s.slots := rfl
@[simp] theorem updOccupancy_requests (l : Lane) (f : Occupancy → Occupancy) (s : State) :
    (updOccupancy l f s).requests = s.requests := rfl
@[simp] theorem updOccupancy_occupancy (l : Lane) (f : Occupancy → Occupancy) (s : State) :
    (updOccupancy l f s).occupancy = s.occupancy.mod l f := rfl
@[simp] theorem updOccupancy_rules (l : Lane) (f : Occupancy → Occupancy) (s : State) :
    (updOccupancy l f s).rules = s.rules := rfl
@[simp] theorem updOccupancy_defect (l : Lane) (f : Occupancy → Occupancy) (s : State) :
    (updOccupancy l f s).defect = s.defect := rfl
@[simp] theorem updOccupancy_repair (l : Lane) (f : Occupancy → Occupancy) (s : State) :
    (updOccupancy l f s).repair = s.repair := rfl
@[simp] theorem updOccupancy_banks (l : Lane) (f : Occupancy → Occupancy) (s : State) :
    (updOccupancy l f s).banks = s.banks := rfl
@[simp] theorem updOccupancy_cues (l : Lane) (f : Occupancy → Occupancy) (s : State) :
    (updOccupancy l f s).cues = s.cues := rfl
@[simp] theorem updOccupancy_grading (l : Lane) (f : Occupancy → Occupancy) (s : State) :
    (updOccupancy l f s).grading = s.grading := rfl
@[simp] theorem updOccupancy_alarms (l : Lane) (f : Occupancy → Occupancy) (s : State) :
    (updOccupancy l f s).alarms = s.alarms := rfl
@[simp] theorem updOccupancy_shelf (l : Lane) (f : Occupancy → Occupancy) (s : State) :
    (updOccupancy l f s).shelf = s.shelf := rfl
@[simp] theorem updOccupancy_cond (l : Lane) (f : Occupancy → Occupancy) (s : State) :
    (updOccupancy l f s).cond = s.cond := rfl
@[simp] theorem updOccupancy_condQueue (l : Lane) (f : Occupancy → Occupancy) (s : State) :
    (updOccupancy l f s).condQueue = s.condQueue := rfl
@[simp] theorem updOccupancy_housing (l : Lane) (f : Occupancy → Occupancy) (s : State) :
    (updOccupancy l f s).housing = s.housing := rfl
@[simp] theorem updOccupancy_mask (l : Lane) (f : Occupancy → Occupancy) (s : State) :
    (updOccupancy l f s).mask = s.mask := rfl
@[simp] theorem updOccupancy_freeIndex (l : Lane) (f : Occupancy → Occupancy) (s : State) :
    (updOccupancy l f s).freeIndex = s.freeIndex := rfl
@[simp] theorem updOccupancy_pending (l : Lane) (f : Occupancy → Occupancy) (s : State) :
    (updOccupancy l f s).pending = s.pending := rfl

@[simp] theorem updRules_part (l : Lane) (f : List ClassifierRule → List ClassifierRule) (s : State) :
    (updRules l f s).part = s.part := rfl
@[simp] theorem updRules_archive (l : Lane) (f : List ClassifierRule → List ClassifierRule) (s : State) :
    (updRules l f s).archive = s.archive := rfl
@[simp] theorem updRules_intake (l : Lane) (f : List ClassifierRule → List ClassifierRule) (s : State) :
    (updRules l f s).intake = s.intake := rfl
@[simp] theorem updRules_lane (l : Lane) (f : List ClassifierRule → List ClassifierRule) (s : State) :
    (updRules l f s).lane = s.lane := rfl
@[simp] theorem updRules_profile (l : Lane) (f : List ClassifierRule → List ClassifierRule) (s : State) :
    (updRules l f s).profile = s.profile := rfl
@[simp] theorem updRules_reg (l : Lane) (f : List ClassifierRule → List ClassifierRule) (s : State) :
    (updRules l f s).reg = s.reg := rfl
@[simp] theorem updRules_slots (l : Lane) (f : List ClassifierRule → List ClassifierRule) (s : State) :
    (updRules l f s).slots = s.slots := rfl
@[simp] theorem updRules_requests (l : Lane) (f : List ClassifierRule → List ClassifierRule) (s : State) :
    (updRules l f s).requests = s.requests := rfl
@[simp] theorem updRules_occupancy (l : Lane) (f : List ClassifierRule → List ClassifierRule) (s : State) :
    (updRules l f s).occupancy = s.occupancy := rfl
@[simp] theorem updRules_rules (l : Lane) (f : List ClassifierRule → List ClassifierRule) (s : State) :
    (updRules l f s).rules = s.rules.mod l f := rfl
@[simp] theorem updRules_defect (l : Lane) (f : List ClassifierRule → List ClassifierRule) (s : State) :
    (updRules l f s).defect = s.defect := rfl
@[simp] theorem updRules_repair (l : Lane) (f : List ClassifierRule → List ClassifierRule) (s : State) :
    (updRules l f s).repair = s.repair := rfl
@[simp] theorem updRules_banks (l : Lane) (f : List ClassifierRule → List ClassifierRule) (s : State) :
    (updRules l f s).banks = s.banks := rfl
@[simp] theorem updRules_cues (l : Lane) (f : List ClassifierRule → List ClassifierRule) (s : State) :
    (updRules l f s).cues = s.cues := rfl
@[simp] theorem updRules_grading (l : Lane) (f : List ClassifierRule → List ClassifierRule) (s : State) :
    (updRules l f s).grading = s.grading := rfl
@[simp] theorem updRules_alarms (l : Lane) (f : List ClassifierRule → List ClassifierRule) (s : State) :
    (updRules l f s).alarms = s.alarms := rfl
@[simp] theorem updRules_shelf (l : Lane) (f : List ClassifierRule → List ClassifierRule) (s : State) :
    (updRules l f s).shelf = s.shelf := rfl
@[simp] theorem updRules_cond (l : Lane) (f : List ClassifierRule → List ClassifierRule) (s : State) :
    (updRules l f s).cond = s.cond := rfl
@[simp] theorem updRules_condQueue (l : Lane) (f : List ClassifierRule → List ClassifierRule) (s : State) :
    (updRules l f s).condQueue = s.condQueue := rfl
@[simp] theorem updRules_housing (l : Lane) (f : List ClassifierRule → List ClassifierRule) (s : State) :
    (updRules l f s).housing = s.housing := rfl
@[simp] theorem updRules_mask (l : Lane) (f : List ClassifierRule → List ClassifierRule) (s : State) :
    (updRules l f s).mask = s.mask := rfl
@[simp] theorem updRules_freeIndex (l : Lane) (f : List ClassifierRule → List ClassifierRule) (s : State) :
    (updRules l f s).freeIndex = s.freeIndex := rfl
@[simp] theorem updRules_pending (l : Lane) (f : List ClassifierRule → List ClassifierRule) (s : State) :
    (updRules l f s).pending = s.pending := rfl

@[simp] theorem updDefect_part (f : DefectUnit → DefectUnit) (s : State) : (updDefect f s).part = s.part := rfl
@[simp] theorem updDefect_archive (f : DefectUnit → DefectUnit) (s : State) :
    (updDefect f s).archive = s.archive := rfl
@[simp] theorem updDefect_intake (f : DefectUnit → DefectUnit) (s : State) : (updDefect f s).intake = s.intake := rfl
@[simp] theorem updDefect_lane (f : DefectUnit → DefectUnit) (s : State) : (updDefect f s).lane = s.lane := rfl
@[simp] theorem updDefect_profile (f : DefectUnit → DefectUnit) (s : State) :
    (updDefect f s).profile = s.profile := rfl
@[simp] theorem updDefect_reg (f : DefectUnit → DefectUnit) (s : State) : (updDefect f s).reg = s.reg := rfl
@[simp] theorem updDefect_slots (f : DefectUnit → DefectUnit) (s : State) : (updDefect f s).slots = s.slots := rfl
@[simp] theorem updDefect_requests (f : DefectUnit → DefectUnit) (s : State) :
    (updDefect f s).requests = s.requests := rfl
@[simp] theorem updDefect_occupancy (f : DefectUnit → DefectUnit) (s : State) :
    (updDefect f s).occupancy = s.occupancy := rfl
@[simp] theorem updDefect_rules (f : DefectUnit → DefectUnit) (s : State) : (updDefect f s).rules = s.rules := rfl
@[simp] theorem updDefect_defect (f : DefectUnit → DefectUnit) (s : State) :
    (updDefect f s).defect = f s.defect := rfl
@[simp] theorem updDefect_repair (f : DefectUnit → DefectUnit) (s : State) : (updDefect f s).repair = s.repair := rfl
@[simp] theorem updDefect_banks (f : DefectUnit → DefectUnit) (s : State) : (updDefect f s).banks = s.banks := rfl
@[simp] theorem updDefect_cues (f : DefectUnit → DefectUnit) (s : State) : (updDefect f s).cues = s.cues := rfl
@[simp] theorem updDefect_grading (f : DefectUnit → DefectUnit) (s : State) :
    (updDefect f s).grading = s.grading := rfl
@[simp] theorem updDefect_alarms (f : DefectUnit → DefectUnit) (s : State) : (updDefect f s).alarms = s.alarms := rfl
@[simp] theorem updDefect_shelf (f : DefectUnit → DefectUnit) (s : State) : (updDefect f s).shelf = s.shelf := rfl
@[simp] theorem updDefect_cond (f : DefectUnit → DefectUnit) (s : State) : (updDefect f s).cond = s.cond := rfl
@[simp] theorem updDefect_condQueue (f : DefectUnit → DefectUnit) (s : State) :
    (updDefect f s).condQueue = s.condQueue := rfl
@[simp] theorem updDefect_housing (f : DefectUnit → DefectUnit) (s : State) :
    (updDefect f s).housing = s.housing := rfl
@[simp] theorem updDefect_mask (f : DefectUnit → DefectUnit) (s : State) : (updDefect f s).mask = s.mask := rfl
@[simp] theorem updDefect_freeIndex (f : DefectUnit → DefectUnit) (s : State) :
    (updDefect f s).freeIndex = s.freeIndex := rfl
@[simp] theorem updDefect_pending (f : DefectUnit → DefectUnit) (s : State) :
    (updDefect f s).pending = s.pending := rfl

@[simp] theorem updRepair_part (f : RepairUnit → RepairUnit) (s : State) : (updRepair f s).part = s.part := rfl
@[simp] theorem updRepair_archive (f : RepairUnit → RepairUnit) (s : State) :
    (updRepair f s).archive = s.archive := rfl
@[simp] theorem updRepair_intake (f : RepairUnit → RepairUnit) (s : State) : (updRepair f s).intake = s.intake := rfl
@[simp] theorem updRepair_lane (f : RepairUnit → RepairUnit) (s : State) : (updRepair f s).lane = s.lane := rfl
@[simp] theorem updRepair_profile (f : RepairUnit → RepairUnit) (s : State) :
    (updRepair f s).profile = s.profile := rfl
@[simp] theorem updRepair_reg (f : RepairUnit → RepairUnit) (s : State) : (updRepair f s).reg = s.reg := rfl
@[simp] theorem updRepair_slots (f : RepairUnit → RepairUnit) (s : State) : (updRepair f s).slots = s.slots := rfl
@[simp] theorem updRepair_requests (f : RepairUnit → RepairUnit) (s : State) :
    (updRepair f s).requests = s.requests := rfl
@[simp] theorem updRepair_occupancy (f : RepairUnit → RepairUnit) (s : State) :
    (updRepair f s).occupancy = s.occupancy := rfl
@[simp] theorem updRepair_rules (f : RepairUnit → RepairUnit) (s : State) : (updRepair f s).rules = s.rules := rfl
@[simp] theorem updRepair_defect (f : RepairUnit → RepairUnit) (s : State) : (updRepair f s).defect = s.defect := rfl
@[simp] theorem updRepair_repair (f : RepairUnit → RepairUnit) (s : State) :
    (updRepair f s).repair = f s.repair := rfl
@[simp] theorem updRepair_banks (f : RepairUnit → RepairUnit) (s : State) : (updRepair f s).banks = s.banks := rfl
@[simp] theorem updRepair_cues (f : RepairUnit → RepairUnit) (s : State) : (updRepair f s).cues = s.cues := rfl
@[simp] theorem updRepair_grading (f : RepairUnit → RepairUnit) (s : State) :
    (updRepair f s).grading = s.grading := rfl
@[simp] theorem updRepair_alarms (f : RepairUnit → RepairUnit) (s : State) : (updRepair f s).alarms = s.alarms := rfl
@[simp] theorem updRepair_shelf (f : RepairUnit → RepairUnit) (s : State) : (updRepair f s).shelf = s.shelf := rfl
@[simp] theorem updRepair_cond (f : RepairUnit → RepairUnit) (s : State) : (updRepair f s).cond = s.cond := rfl
@[simp] theorem updRepair_condQueue (f : RepairUnit → RepairUnit) (s : State) :
    (updRepair f s).condQueue = s.condQueue := rfl
@[simp] theorem updRepair_housing (f : RepairUnit → RepairUnit) (s : State) :
    (updRepair f s).housing = s.housing := rfl
@[simp] theorem updRepair_mask (f : RepairUnit → RepairUnit) (s : State) : (updRepair f s).mask = s.mask := rfl
@[simp] theorem updRepair_freeIndex (f : RepairUnit → RepairUnit) (s : State) :
    (updRepair f s).freeIndex = s.freeIndex := rfl
@[simp] theorem updRepair_pending (f : RepairUnit → RepairUnit) (s : State) :
    (updRepair f s).pending = s.pending := rfl

@[simp] theorem updBanks_part (f : List Bank → List Bank) (s : State) : (updBanks f s).part = s.part := rfl
@[simp] theorem updBanks_archive (f : List Bank → List Bank) (s : State) : (updBanks f s).archive = s.archive := rfl
@[simp] theorem updBanks_intake (f : List Bank → List Bank) (s : State) : (updBanks f s).intake = s.intake := rfl
@[simp] theorem updBanks_lane (f : List Bank → List Bank) (s : State) : (updBanks f s).lane = s.lane := rfl
@[simp] theorem updBanks_profile (f : List Bank → List Bank) (s : State) : (updBanks f s).profile = s.profile := rfl
@[simp] theorem updBanks_reg (f : List Bank → List Bank) (s : State) : (updBanks f s).reg = s.reg := rfl
@[simp] theorem updBanks_slots (f : List Bank → List Bank) (s : State) : (updBanks f s).slots = s.slots := rfl
@[simp] theorem updBanks_requests (f : List Bank → List Bank) (s : State) :
    (updBanks f s).requests = s.requests := rfl
@[simp] theorem updBanks_occupancy (f : List Bank → List Bank) (s : State) :
    (updBanks f s).occupancy = s.occupancy := rfl
@[simp] theorem updBanks_rules (f : List Bank → List Bank) (s : State) : (updBanks f s).rules = s.rules := rfl
@[simp] theorem updBanks_defect (f : List Bank → List Bank) (s : State) : (updBanks f s).defect = s.defect := rfl
@[simp] theorem updBanks_repair (f : List Bank → List Bank) (s : State) : (updBanks f s).repair = s.repair := rfl
@[simp] theorem updBanks_banks (f : List Bank → List Bank) (s : State) : (updBanks f s).banks = f s.banks := rfl
@[simp] theorem updBanks_cues (f : List Bank → List Bank) (s : State) : (updBanks f s).cues = s.cues := rfl
@[simp] theorem updBanks_grading (f : List Bank → List Bank) (s : State) : (updBanks f s).grading = s.grading := rfl
@[simp] theorem updBanks_alarms (f : List Bank → List Bank) (s : State) : (updBanks f s).alarms = s.alarms := rfl
@[simp] theorem updBanks_shelf (f : List Bank → List Bank) (s : State) : (updBanks f s).shelf = s.shelf := rfl
@[simp] theorem updBanks_cond (f : List Bank → List Bank) (s : State) : (updBanks f s).cond = s.cond := rfl
@[simp] theorem updBanks_condQueue (f : List Bank → List Bank) (s : State) :
    (updBanks f s).condQueue = s.condQueue := rfl
@[simp] theorem updBanks_housing (f : List Bank → List Bank) (s : State) : (updBanks f s).housing = s.housing := rfl
@[simp] theorem updBanks_mask (f : List Bank → List Bank) (s : State) : (updBanks f s).mask = s.mask := rfl
@[simp] theorem updBanks_freeIndex (f : List Bank → List Bank) (s : State) :
    (updBanks f s).freeIndex = s.freeIndex := rfl
@[simp] theorem updBanks_pending (f : List Bank → List Bank) (s : State) : (updBanks f s).pending = s.pending := rfl

@[simp] theorem updCues_part (l : Lane) (f : CueState → CueState) (s : State) : (updCues l f s).part = s.part := rfl
@[simp] theorem updCues_archive (l : Lane) (f : CueState → CueState) (s : State) :
    (updCues l f s).archive = s.archive := rfl
@[simp] theorem updCues_intake (l : Lane) (f : CueState → CueState) (s : State) :
    (updCues l f s).intake = s.intake := rfl
@[simp] theorem updCues_lane (l : Lane) (f : CueState → CueState) (s : State) : (updCues l f s).lane = s.lane := rfl
@[simp] theorem updCues_profile (l : Lane) (f : CueState → CueState) (s : State) :
    (updCues l f s).profile = s.profile := rfl
@[simp] theorem updCues_reg (l : Lane) (f : CueState → CueState) (s : State) : (updCues l f s).reg = s.reg := rfl
@[simp] theorem updCues_slots (l : Lane) (f : CueState → CueState) (s : State) :
    (updCues l f s).slots = s.slots := rfl
@[simp] theorem updCues_requests (l : Lane) (f : CueState → CueState) (s : State) :
    (updCues l f s).requests = s.requests := rfl
@[simp] theorem updCues_occupancy (l : Lane) (f : CueState → CueState) (s : State) :
    (updCues l f s).occupancy = s.occupancy := rfl
@[simp] theorem updCues_rules (l : Lane) (f : CueState → CueState) (s : State) :
    (updCues l f s).rules = s.rules := rfl
@[simp] theorem updCues_defect (l : Lane) (f : CueState → CueState) (s : State) :
    (updCues l f s).defect = s.defect := rfl
@[simp] theorem updCues_repair (l : Lane) (f : CueState → CueState) (s : State) :
    (updCues l f s).repair = s.repair := rfl
@[simp] theorem updCues_banks (l : Lane) (f : CueState → CueState) (s : State) :
    (updCues l f s).banks = s.banks := rfl
@[simp] theorem updCues_cues (l : Lane) (f : CueState → CueState) (s : State) :
    (updCues l f s).cues = s.cues.mod l f := rfl
@[simp] theorem updCues_grading (l : Lane) (f : CueState → CueState) (s : State) :
    (updCues l f s).grading = s.grading := rfl
@[simp] theorem updCues_alarms (l : Lane) (f : CueState → CueState) (s : State) :
    (updCues l f s).alarms = s.alarms := rfl
@[simp] theorem updCues_shelf (l : Lane) (f : CueState → CueState) (s : State) :
    (updCues l f s).shelf = s.shelf := rfl
@[simp] theorem updCues_cond (l : Lane) (f : CueState → CueState) (s : State) : (updCues l f s).cond = s.cond := rfl
@[simp] theorem updCues_condQueue (l : Lane) (f : CueState → CueState) (s : State) :
    (updCues l f s).condQueue = s.condQueue := rfl
@[simp] theorem updCues_housing (l : Lane) (f : CueState → CueState) (s : State) :
    (updCues l f s).housing = s.housing := rfl
@[simp] theorem updCues_mask (l : Lane) (f : CueState → CueState) (s : State) : (updCues l f s).mask = s.mask := rfl
@[simp] theorem updCues_freeIndex (l : Lane) (f : CueState → CueState) (s : State) :
    (updCues l f s).freeIndex = s.freeIndex := rfl
@[simp] theorem updCues_pending (l : Lane) (f : CueState → CueState) (s : State) :
    (updCues l f s).pending = s.pending := rfl

@[simp] theorem updGrading_part (f : GradingUnit → GradingUnit) (s : State) : (updGrading f s).part = s.part := rfl
@[simp] theorem updGrading_archive (f : GradingUnit → GradingUnit) (s : State) :
    (updGrading f s).archive = s.archive := rfl
@[simp] theorem updGrading_intake (f : GradingUnit → GradingUnit) (s : State) :
    (updGrading f s).intake = s.intake := rfl
@[simp] theorem updGrading_lane (f : GradingUnit → GradingUnit) (s : State) : (updGrading f s).lane = s.lane := rfl
@[simp] theorem updGrading_profile (f : GradingUnit → GradingUnit) (s : State) :
    (updGrading f s).profile = s.profile := rfl
@[simp] theorem updGrading_reg (f : GradingUnit → GradingUnit) (s : State) : (updGrading f s).reg = s.reg := rfl
@[simp] theorem updGrading_slots (f : GradingUnit → GradingUnit) (s : State) : (updGrading f s).slots = s.slots := rfl
@[simp] theorem updGrading_requests (f : GradingUnit → GradingUnit) (s : State) :
    (updGrading f s).requests = s.requests := rfl
@[simp] theorem updGrading_occupancy (f : GradingUnit → GradingUnit) (s : State) :
    (updGrading f s).occupancy = s.occupancy := rfl
@[simp] theorem updGrading_rules (f : GradingUnit → GradingUnit) (s : State) : (updGrading f s).rules = s.rules := rfl
@[simp] theorem updGrading_defect (f : GradingUnit → GradingUnit) (s : State) :
    (updGrading f s).defect = s.defect := rfl
@[simp] theorem updGrading_repair (f : GradingUnit → GradingUnit) (s : State) :
    (updGrading f s).repair = s.repair := rfl
@[simp] theorem updGrading_banks (f : GradingUnit → GradingUnit) (s : State) : (updGrading f s).banks = s.banks := rfl
@[simp] theorem updGrading_cues (f : GradingUnit → GradingUnit) (s : State) : (updGrading f s).cues = s.cues := rfl
@[simp] theorem updGrading_grading (f : GradingUnit → GradingUnit) (s : State) :
    (updGrading f s).grading = f s.grading := rfl
@[simp] theorem updGrading_alarms (f : GradingUnit → GradingUnit) (s : State) :
    (updGrading f s).alarms = s.alarms := rfl
@[simp] theorem updGrading_shelf (f : GradingUnit → GradingUnit) (s : State) : (updGrading f s).shelf = s.shelf := rfl
@[simp] theorem updGrading_cond (f : GradingUnit → GradingUnit) (s : State) : (updGrading f s).cond = s.cond := rfl
@[simp] theorem updGrading_condQueue (f : GradingUnit → GradingUnit) (s : State) :
    (updGrading f s).condQueue = s.condQueue := rfl
@[simp] theorem updGrading_housing (f : GradingUnit → GradingUnit) (s : State) :
    (updGrading f s).housing = s.housing := rfl
@[simp] theorem updGrading_mask (f : GradingUnit → GradingUnit) (s : State) : (updGrading f s).mask = s.mask := rfl
@[simp] theorem updGrading_freeIndex (f : GradingUnit → GradingUnit) (s : State) :
    (updGrading f s).freeIndex = s.freeIndex := rfl
@[simp] theorem updGrading_pending (f : GradingUnit → GradingUnit) (s : State) :
    (updGrading f s).pending = s.pending := rfl

@[simp] theorem updAlarms_part (l : Lane) (f : AlarmUnit → AlarmUnit) (s : State) :
    (updAlarms l f s).part = s.part := rfl
@[simp] theorem updAlarms_archive (l : Lane) (f : AlarmUnit → AlarmUnit) (s : State) :
    (updAlarms l f s).archive = s.archive := rfl
@[simp] theorem updAlarms_intake (l : Lane) (f : AlarmUnit → AlarmUnit) (s : State) :
    (updAlarms l f s).intake = s.intake := rfl
@[simp] theorem updAlarms_lane (l : Lane) (f : AlarmUnit → AlarmUnit) (s : State) :
    (updAlarms l f s).lane = s.lane := rfl
@[simp] theorem updAlarms_profile (l : Lane) (f : AlarmUnit → AlarmUnit) (s : State) :
    (updAlarms l f s).profile = s.profile := rfl
@[simp] theorem updAlarms_reg (l : Lane) (f : AlarmUnit → AlarmUnit) (s : State) :
    (updAlarms l f s).reg = s.reg := rfl
@[simp] theorem updAlarms_slots (l : Lane) (f : AlarmUnit → AlarmUnit) (s : State) :
    (updAlarms l f s).slots = s.slots := rfl
@[simp] theorem updAlarms_requests (l : Lane) (f : AlarmUnit → AlarmUnit) (s : State) :
    (updAlarms l f s).requests = s.requests := rfl
@[simp] theorem updAlarms_occupancy (l : Lane) (f : AlarmUnit → AlarmUnit) (s : State) :
    (updAlarms l f s).occupancy = s.occupancy := rfl
@[simp] theorem updAlarms_rules (l : Lane) (f : AlarmUnit → AlarmUnit) (s : State) :
    (updAlarms l f s).rules = s.rules := rfl
@[simp] theorem updAlarms_defect (l : Lane) (f : AlarmUnit → AlarmUnit) (s : State) :
    (updAlarms l f s).defect = s.defect := rfl
@[simp] theorem updAlarms_repair (l : Lane) (f : AlarmUnit → AlarmUnit) (s : State) :
    (updAlarms l f s).repair = s.repair := rfl
@[simp] theorem updAlarms_banks (l : Lane) (f : AlarmUnit → AlarmUnit) (s : State) :
    (updAlarms l f s).banks = s.banks := rfl
@[simp] theorem updAlarms_cues (l : Lane) (f : AlarmUnit → AlarmUnit) (s : State) :
    (updAlarms l f s).cues = s.cues := rfl
@[simp] theorem updAlarms_grading (l : Lane) (f : AlarmUnit → AlarmUnit) (s : State) :
    (updAlarms l f s).grading = s.grading := rfl
@[simp] theorem updAlarms_alarms (l : Lane) (f : AlarmUnit → AlarmUnit) (s : State) :
    (updAlarms l f s).alarms = s.alarms.mod l f := rfl
@[simp] theorem updAlarms_shelf (l : Lane) (f : AlarmUnit → AlarmUnit) (s : State) :
    (updAlarms l f s).shelf = s.shelf := rfl
@[simp] theorem updAlarms_cond (l : Lane) (f : AlarmUnit → AlarmUnit) (s : State) :
    (updAlarms l f s).cond = s.cond := rfl
@[simp] theorem updAlarms_condQueue (l : Lane) (f : AlarmUnit → AlarmUnit) (s : State) :
    (updAlarms l f s).condQueue = s.condQueue := rfl
@[simp] theorem updAlarms_housing (l : Lane) (f : AlarmUnit → AlarmUnit) (s : State) :
    (updAlarms l f s).housing = s.housing := rfl
@[simp] theorem updAlarms_mask (l : Lane) (f : AlarmUnit → AlarmUnit) (s : State) :
    (updAlarms l f s).mask = s.mask := rfl
@[simp] theorem updAlarms_freeIndex (l : Lane) (f : AlarmUnit → AlarmUnit) (s : State) :
    (updAlarms l f s).freeIndex = s.freeIndex := rfl
@[simp] theorem updAlarms_pending (l : Lane) (f : AlarmUnit → AlarmUnit) (s : State) :
    (updAlarms l f s).pending = s.pending := rfl

@[simp] theorem updShelf_part (l : Lane) (f : ShelfUnit → ShelfUnit) (s : State) :
    (updShelf l f s).part = s.part := rfl
@[simp] theorem updShelf_archive (l : Lane) (f : ShelfUnit → ShelfUnit) (s : State) :
    (updShelf l f s).archive = s.archive := rfl
@[simp] theorem updShelf_intake (l : Lane) (f : ShelfUnit → ShelfUnit) (s : State) :
    (updShelf l f s).intake = s.intake := rfl
@[simp] theorem updShelf_lane (l : Lane) (f : ShelfUnit → ShelfUnit) (s : State) :
    (updShelf l f s).lane = s.lane := rfl
@[simp] theorem updShelf_profile (l : Lane) (f : ShelfUnit → ShelfUnit) (s : State) :
    (updShelf l f s).profile = s.profile := rfl
@[simp] theorem updShelf_reg (l : Lane) (f : ShelfUnit → ShelfUnit) (s : State) : (updShelf l f s).reg = s.reg := rfl
@[simp] theorem updShelf_slots (l : Lane) (f : ShelfUnit → ShelfUnit) (s : State) :
    (updShelf l f s).slots = s.slots := rfl
@[simp] theorem updShelf_requests (l : Lane) (f : ShelfUnit → ShelfUnit) (s : State) :
    (updShelf l f s).requests = s.requests := rfl
@[simp] theorem updShelf_occupancy (l : Lane) (f : ShelfUnit → ShelfUnit) (s : State) :
    (updShelf l f s).occupancy = s.occupancy := rfl
@[simp] theorem updShelf_rules (l : Lane) (f : ShelfUnit → ShelfUnit) (s : State) :
    (updShelf l f s).rules = s.rules := rfl
@[simp] theorem updShelf_defect (l : Lane) (f : ShelfUnit → ShelfUnit) (s : State) :
    (updShelf l f s).defect = s.defect := rfl
@[simp] theorem updShelf_repair (l : Lane) (f : ShelfUnit → ShelfUnit) (s : State) :
    (updShelf l f s).repair = s.repair := rfl
@[simp] theorem updShelf_banks (l : Lane) (f : ShelfUnit → ShelfUnit) (s : State) :
    (updShelf l f s).banks = s.banks := rfl
@[simp] theorem updShelf_cues (l : Lane) (f : ShelfUnit → ShelfUnit) (s : State) :
    (updShelf l f s).cues = s.cues := rfl
@[simp] theorem updShelf_grading (l : Lane) (f : ShelfUnit → ShelfUnit) (s : State) :
    (updShelf l f s).grading = s.grading := rfl
@[simp] theorem updShelf_alarms (l : Lane) (f : ShelfUnit → ShelfUnit) (s : State) :
    (updShelf l f s).alarms = s.alarms := rfl
@[simp] theorem updShelf_shelf (l : Lane) (f : ShelfUnit → ShelfUnit) (s : State) :
    (updShelf l f s).shelf = s.shelf.mod l f := rfl
@[simp] theorem updShelf_cond (l : Lane) (f : ShelfUnit → ShelfUnit) (s : State) :
    (updShelf l f s).cond = s.cond := rfl
@[simp] theorem updShelf_condQueue (l : Lane) (f : ShelfUnit → ShelfUnit) (s : State) :
    (updShelf l f s).condQueue = s.condQueue := rfl
@[simp] theorem updShelf_housing (l : Lane) (f : ShelfUnit → ShelfUnit) (s : State) :
    (updShelf l f s).housing = s.housing := rfl
@[simp] theorem updShelf_mask (l : Lane) (f : ShelfUnit → ShelfUnit) (s : State) :
    (updShelf l f s).mask = s.mask := rfl
@[simp] theorem updShelf_freeIndex (l : Lane) (f : ShelfUnit → ShelfUnit) (s : State) :
    (updShelf l f s).freeIndex = s.freeIndex := rfl
@[simp] theorem updShelf_pending (l : Lane) (f : ShelfUnit → ShelfUnit) (s : State) :
    (updShelf l f s).pending = s.pending := rfl

@[simp] theorem updCond_part (l : Lane) (f : ConditionUnit → ConditionUnit) (s : State) :
    (updCond l f s).part = s.part := rfl
@[simp] theorem updCond_archive (l : Lane) (f : ConditionUnit → ConditionUnit) (s : State) :
    (updCond l f s).archive = s.archive := rfl
@[simp] theorem updCond_intake (l : Lane) (f : ConditionUnit → ConditionUnit) (s : State) :
    (updCond l f s).intake = s.intake := rfl
@[simp] theorem updCond_lane (l : Lane) (f : ConditionUnit → ConditionUnit) (s : State) :
    (updCond l f s).lane = s.lane := rfl
@[simp] theorem updCond_profile (l : Lane) (f : ConditionUnit → ConditionUnit) (s : State) :
    (updCond l f s).profile = s.profile := rfl
@[simp] theorem updCond_reg (l : Lane) (f : ConditionUnit → ConditionUnit) (s : State) :
    (updCond l f s).reg = s.reg := rfl
@[simp] theorem updCond_slots (l : Lane) (f : ConditionUnit → ConditionUnit) (s : State) :
    (updCond l f s).slots = s.slots := rfl
@[simp] theorem updCond_requests (l : Lane) (f : ConditionUnit → ConditionUnit) (s : State) :
    (updCond l f s).requests = s.requests := rfl
@[simp] theorem updCond_occupancy (l : Lane) (f : ConditionUnit → ConditionUnit) (s : State) :
    (updCond l f s).occupancy = s.occupancy := rfl
@[simp] theorem updCond_rules (l : Lane) (f : ConditionUnit → ConditionUnit) (s : State) :
    (updCond l f s).rules = s.rules := rfl
@[simp] theorem updCond_defect (l : Lane) (f : ConditionUnit → ConditionUnit) (s : State) :
    (updCond l f s).defect = s.defect := rfl
@[simp] theorem updCond_repair (l : Lane) (f : ConditionUnit → ConditionUnit) (s : State) :
    (updCond l f s).repair = s.repair := rfl
@[simp] theorem updCond_banks (l : Lane) (f : ConditionUnit → ConditionUnit) (s : State) :
    (updCond l f s).banks = s.banks := rfl
@[simp] theorem updCond_cues (l : Lane) (f : ConditionUnit → ConditionUnit) (s : State) :
    (updCond l f s).cues = s.cues := rfl
@[simp] theorem updCond_grading (l : Lane) (f : ConditionUnit → ConditionUnit) (s : State) :
    (updCond l f s).grading = s.grading := rfl
@[simp] theorem updCond_alarms (l : Lane) (f : ConditionUnit → ConditionUnit) (s : State) :
    (updCond l f s).alarms = s.alarms := rfl
@[simp] theorem updCond_shelf (l : Lane) (f : ConditionUnit → ConditionUnit) (s : State) :
    (updCond l f s).shelf = s.shelf := rfl
@[simp] theorem updCond_cond (l : Lane) (f : ConditionUnit → ConditionUnit) (s : State) :
    (updCond l f s).cond = s.cond.mod l f := rfl
@[simp] theorem updCond_condQueue (l : Lane) (f : ConditionUnit → ConditionUnit) (s : State) :
    (updCond l f s).condQueue = s.condQueue := rfl
@[simp] theorem updCond_housing (l : Lane) (f : ConditionUnit → ConditionUnit) (s : State) :
    (updCond l f s).housing = s.housing := rfl
@[simp] theorem updCond_mask (l : Lane) (f : ConditionUnit → ConditionUnit) (s : State) :
    (updCond l f s).mask = s.mask := rfl
@[simp] theorem updCond_freeIndex (l : Lane) (f : ConditionUnit → ConditionUnit) (s : State) :
    (updCond l f s).freeIndex = s.freeIndex := rfl
@[simp] theorem updCond_pending (l : Lane) (f : ConditionUnit → ConditionUnit) (s : State) :
    (updCond l f s).pending = s.pending := rfl

@[simp] theorem updCondQueue_part (f : List ConditionCell → List ConditionCell) (s : State) :
    (updCondQueue f s).part = s.part := rfl
@[simp] theorem updCondQueue_archive (f : List ConditionCell → List ConditionCell) (s : State) :
    (updCondQueue f s).archive = s.archive := rfl
@[simp] theorem updCondQueue_intake (f : List ConditionCell → List ConditionCell) (s : State) :
    (updCondQueue f s).intake = s.intake := rfl
@[simp] theorem updCondQueue_lane (f : List ConditionCell → List ConditionCell) (s : State) :
    (updCondQueue f s).lane = s.lane := rfl
@[simp] theorem updCondQueue_profile (f : List ConditionCell → List ConditionCell) (s : State) :
    (updCondQueue f s).profile = s.profile := rfl
@[simp] theorem updCondQueue_reg (f : List ConditionCell → List ConditionCell) (s : State) :
    (updCondQueue f s).reg = s.reg := rfl
@[simp] theorem updCondQueue_slots (f : List ConditionCell → List ConditionCell) (s : State) :
    (updCondQueue f s).slots = s.slots := rfl
@[simp] theorem updCondQueue_requests (f : List ConditionCell → List ConditionCell) (s : State) :
    (updCondQueue f s).requests = s.requests := rfl
@[simp] theorem updCondQueue_occupancy (f : List ConditionCell → List ConditionCell) (s : State) :
    (updCondQueue f s).occupancy = s.occupancy := rfl
@[simp] theorem updCondQueue_rules (f : List ConditionCell → List ConditionCell) (s : State) :
    (updCondQueue f s).rules = s.rules := rfl
@[simp] theorem updCondQueue_defect (f : List ConditionCell → List ConditionCell) (s : State) :
    (updCondQueue f s).defect = s.defect := rfl
@[simp] theorem updCondQueue_repair (f : List ConditionCell → List ConditionCell) (s : State) :
    (updCondQueue f s).repair = s.repair := rfl
@[simp] theorem updCondQueue_banks (f : List ConditionCell → List ConditionCell) (s : State) :
    (updCondQueue f s).banks = s.banks := rfl
@[simp] theorem updCondQueue_cues (f : List ConditionCell → List ConditionCell) (s : State) :
    (updCondQueue f s).cues = s.cues := rfl
@[simp] theorem updCondQueue_grading (f : List ConditionCell → List ConditionCell) (s : State) :
    (updCondQueue f s).grading = s.grading := rfl
@[simp] theorem updCondQueue_alarms (f : List ConditionCell → List ConditionCell) (s : State) :
    (updCondQueue f s).alarms = s.alarms := rfl
@[simp] theorem updCondQueue_shelf (f : List ConditionCell → List ConditionCell) (s : State) :
    (updCondQueue f s).shelf = s.shelf := rfl
@[simp] theorem updCondQueue_cond (f : List ConditionCell → List ConditionCell) (s : State) :
    (updCondQueue f s).cond = s.cond := rfl
@[simp] theorem updCondQueue_condQueue (f : List ConditionCell → List ConditionCell) (s : State) :
    (updCondQueue f s).condQueue = f s.condQueue := rfl
@[simp] theorem updCondQueue_housing (f : List ConditionCell → List ConditionCell) (s : State) :
    (updCondQueue f s).housing = s.housing := rfl
@[simp] theorem updCondQueue_mask (f : List ConditionCell → List ConditionCell) (s : State) :
    (updCondQueue f s).mask = s.mask := rfl
@[simp] theorem updCondQueue_freeIndex (f : List ConditionCell → List ConditionCell) (s : State) :
    (updCondQueue f s).freeIndex = s.freeIndex := rfl
@[simp] theorem updCondQueue_pending (f : List ConditionCell → List ConditionCell) (s : State) :
    (updCondQueue f s).pending = s.pending := rfl

@[simp] theorem setHousing_part (h : HousingTable) (s : State) : (setHousing h s).part = s.part := rfl
@[simp] theorem setHousing_archive (h : HousingTable) (s : State) : (setHousing h s).archive = s.archive := rfl
@[simp] theorem setHousing_intake (h : HousingTable) (s : State) : (setHousing h s).intake = s.intake := rfl
@[simp] theorem setHousing_lane (h : HousingTable) (s : State) : (setHousing h s).lane = s.lane := rfl
@[simp] theorem setHousing_profile (h : HousingTable) (s : State) : (setHousing h s).profile = s.profile := rfl
@[simp] theorem setHousing_reg (h : HousingTable) (s : State) : (setHousing h s).reg = s.reg := rfl
@[simp] theorem setHousing_slots (h : HousingTable) (s : State) : (setHousing h s).slots = s.slots := rfl
@[simp] theorem setHousing_requests (h : HousingTable) (s : State) : (setHousing h s).requests = s.requests := rfl
@[simp] theorem setHousing_occupancy (h : HousingTable) (s : State) : (setHousing h s).occupancy = s.occupancy := rfl
@[simp] theorem setHousing_rules (h : HousingTable) (s : State) : (setHousing h s).rules = s.rules := rfl
@[simp] theorem setHousing_defect (h : HousingTable) (s : State) : (setHousing h s).defect = s.defect := rfl
@[simp] theorem setHousing_repair (h : HousingTable) (s : State) : (setHousing h s).repair = s.repair := rfl
@[simp] theorem setHousing_banks (h : HousingTable) (s : State) : (setHousing h s).banks = s.banks := rfl
@[simp] theorem setHousing_cues (h : HousingTable) (s : State) : (setHousing h s).cues = s.cues := rfl
@[simp] theorem setHousing_grading (h : HousingTable) (s : State) : (setHousing h s).grading = s.grading := rfl
@[simp] theorem setHousing_alarms (h : HousingTable) (s : State) : (setHousing h s).alarms = s.alarms := rfl
@[simp] theorem setHousing_shelf (h : HousingTable) (s : State) : (setHousing h s).shelf = s.shelf := rfl
@[simp] theorem setHousing_cond (h : HousingTable) (s : State) : (setHousing h s).cond = s.cond := rfl
@[simp] theorem setHousing_condQueue (h : HousingTable) (s : State) : (setHousing h s).condQueue = s.condQueue := rfl
@[simp] theorem setHousing_housing (h : HousingTable) (s : State) : (setHousing h s).housing = h := rfl
@[simp] theorem setHousing_mask (h : HousingTable) (s : State) : (setHousing h s).mask = s.mask := rfl
@[simp] theorem setHousing_freeIndex (h : HousingTable) (s : State) : (setHousing h s).freeIndex = s.freeIndex := rfl
@[simp] theorem setHousing_pending (h : HousingTable) (s : State) : (setHousing h s).pending = s.pending := rfl

@[simp] theorem setMask_part (l : Lane) (m : NoticeMask) (s : State) : (setMask l m s).part = s.part := rfl
@[simp] theorem setMask_archive (l : Lane) (m : NoticeMask) (s : State) : (setMask l m s).archive = s.archive := rfl
@[simp] theorem setMask_intake (l : Lane) (m : NoticeMask) (s : State) : (setMask l m s).intake = s.intake := rfl
@[simp] theorem setMask_lane (l : Lane) (m : NoticeMask) (s : State) : (setMask l m s).lane = s.lane := rfl
@[simp] theorem setMask_profile (l : Lane) (m : NoticeMask) (s : State) : (setMask l m s).profile = s.profile := rfl
@[simp] theorem setMask_reg (l : Lane) (m : NoticeMask) (s : State) : (setMask l m s).reg = s.reg := rfl
@[simp] theorem setMask_slots (l : Lane) (m : NoticeMask) (s : State) : (setMask l m s).slots = s.slots := rfl
@[simp] theorem setMask_requests (l : Lane) (m : NoticeMask) (s : State) :
    (setMask l m s).requests = s.requests := rfl
@[simp] theorem setMask_occupancy (l : Lane) (m : NoticeMask) (s : State) :
    (setMask l m s).occupancy = s.occupancy := rfl
@[simp] theorem setMask_rules (l : Lane) (m : NoticeMask) (s : State) : (setMask l m s).rules = s.rules := rfl
@[simp] theorem setMask_defect (l : Lane) (m : NoticeMask) (s : State) : (setMask l m s).defect = s.defect := rfl
@[simp] theorem setMask_repair (l : Lane) (m : NoticeMask) (s : State) : (setMask l m s).repair = s.repair := rfl
@[simp] theorem setMask_banks (l : Lane) (m : NoticeMask) (s : State) : (setMask l m s).banks = s.banks := rfl
@[simp] theorem setMask_cues (l : Lane) (m : NoticeMask) (s : State) : (setMask l m s).cues = s.cues := rfl
@[simp] theorem setMask_grading (l : Lane) (m : NoticeMask) (s : State) : (setMask l m s).grading = s.grading := rfl
@[simp] theorem setMask_alarms (l : Lane) (m : NoticeMask) (s : State) : (setMask l m s).alarms = s.alarms := rfl
@[simp] theorem setMask_shelf (l : Lane) (m : NoticeMask) (s : State) : (setMask l m s).shelf = s.shelf := rfl
@[simp] theorem setMask_cond (l : Lane) (m : NoticeMask) (s : State) : (setMask l m s).cond = s.cond := rfl
@[simp] theorem setMask_condQueue (l : Lane) (m : NoticeMask) (s : State) :
    (setMask l m s).condQueue = s.condQueue := rfl
@[simp] theorem setMask_housing (l : Lane) (m : NoticeMask) (s : State) : (setMask l m s).housing = s.housing := rfl
@[simp] theorem setMask_mask (l : Lane) (m : NoticeMask) (s : State) : (setMask l m s).mask = s.mask.set l m := rfl
@[simp] theorem setMask_freeIndex (l : Lane) (m : NoticeMask) (s : State) :
    (setMask l m s).freeIndex = s.freeIndex := rfl
@[simp] theorem setMask_pending (l : Lane) (m : NoticeMask) (s : State) : (setMask l m s).pending = s.pending := rfl

@[simp] theorem setPart_part (p : PartState) (s : State) : (setPart p s).part = p := rfl
@[simp] theorem setPart_archive (p : PartState) (s : State) : (setPart p s).archive = s.archive := rfl
@[simp] theorem setPart_intake (p : PartState) (s : State) : (setPart p s).intake = s.intake := rfl
@[simp] theorem setPart_lane (p : PartState) (s : State) : (setPart p s).lane = s.lane := rfl
@[simp] theorem setPart_profile (p : PartState) (s : State) : (setPart p s).profile = s.profile := rfl
@[simp] theorem setPart_reg (p : PartState) (s : State) : (setPart p s).reg = s.reg := rfl
@[simp] theorem setPart_slots (p : PartState) (s : State) : (setPart p s).slots = s.slots := rfl
@[simp] theorem setPart_requests (p : PartState) (s : State) : (setPart p s).requests = s.requests := rfl
@[simp] theorem setPart_occupancy (p : PartState) (s : State) : (setPart p s).occupancy = s.occupancy := rfl
@[simp] theorem setPart_rules (p : PartState) (s : State) : (setPart p s).rules = s.rules := rfl
@[simp] theorem setPart_defect (p : PartState) (s : State) : (setPart p s).defect = s.defect := rfl
@[simp] theorem setPart_repair (p : PartState) (s : State) : (setPart p s).repair = s.repair := rfl
@[simp] theorem setPart_banks (p : PartState) (s : State) : (setPart p s).banks = s.banks := rfl
@[simp] theorem setPart_cues (p : PartState) (s : State) : (setPart p s).cues = s.cues := rfl
@[simp] theorem setPart_grading (p : PartState) (s : State) : (setPart p s).grading = s.grading := rfl
@[simp] theorem setPart_alarms (p : PartState) (s : State) : (setPart p s).alarms = s.alarms := rfl
@[simp] theorem setPart_shelf (p : PartState) (s : State) : (setPart p s).shelf = s.shelf := rfl
@[simp] theorem setPart_cond (p : PartState) (s : State) : (setPart p s).cond = s.cond := rfl
@[simp] theorem setPart_condQueue (p : PartState) (s : State) : (setPart p s).condQueue = s.condQueue := rfl
@[simp] theorem setPart_housing (p : PartState) (s : State) : (setPart p s).housing = s.housing := rfl
@[simp] theorem setPart_mask (p : PartState) (s : State) : (setPart p s).mask = s.mask := rfl
@[simp] theorem setPart_freeIndex (p : PartState) (s : State) : (setPart p s).freeIndex = s.freeIndex := rfl
@[simp] theorem setPart_pending (p : PartState) (s : State) : (setPart p s).pending = s.pending := rfl

@[simp] theorem advanceFree_part (s : State) : (advanceFree s).part = s.part := rfl
@[simp] theorem advanceFree_archive (s : State) : (advanceFree s).archive = s.archive := rfl
@[simp] theorem advanceFree_intake (s : State) : (advanceFree s).intake = s.intake := rfl
@[simp] theorem advanceFree_lane (s : State) : (advanceFree s).lane = s.lane := rfl
@[simp] theorem advanceFree_profile (s : State) : (advanceFree s).profile = s.profile := rfl
@[simp] theorem advanceFree_reg (s : State) : (advanceFree s).reg = s.reg := rfl
@[simp] theorem advanceFree_slots (s : State) : (advanceFree s).slots = s.slots := rfl
@[simp] theorem advanceFree_requests (s : State) : (advanceFree s).requests = s.requests := rfl
@[simp] theorem advanceFree_occupancy (s : State) : (advanceFree s).occupancy = s.occupancy := rfl
@[simp] theorem advanceFree_rules (s : State) : (advanceFree s).rules = s.rules := rfl
@[simp] theorem advanceFree_defect (s : State) : (advanceFree s).defect = s.defect := rfl
@[simp] theorem advanceFree_repair (s : State) : (advanceFree s).repair = s.repair := rfl
@[simp] theorem advanceFree_banks (s : State) : (advanceFree s).banks = s.banks := rfl
@[simp] theorem advanceFree_cues (s : State) : (advanceFree s).cues = s.cues := rfl
@[simp] theorem advanceFree_grading (s : State) : (advanceFree s).grading = s.grading := rfl
@[simp] theorem advanceFree_alarms (s : State) : (advanceFree s).alarms = s.alarms := rfl
@[simp] theorem advanceFree_shelf (s : State) : (advanceFree s).shelf = s.shelf := rfl
@[simp] theorem advanceFree_cond (s : State) : (advanceFree s).cond = s.cond := rfl
@[simp] theorem advanceFree_condQueue (s : State) : (advanceFree s).condQueue = s.condQueue := rfl
@[simp] theorem advanceFree_housing (s : State) : (advanceFree s).housing = s.housing := rfl
@[simp] theorem advanceFree_mask (s : State) : (advanceFree s).mask = s.mask := rfl
@[simp] theorem advanceFree_freeIndex (s : State) : (advanceFree s).freeIndex = s.freeIndex + 1 := rfl
@[simp] theorem advanceFree_pending (s : State) : (advanceFree s).pending = s.pending := rfl

@[simp] theorem State.withPending_part (s : State) (q : List Instr) : (s.withPending q).part = s.part := rfl
@[simp] theorem State.withPending_archive (s : State) (q : List Instr) : (s.withPending q).archive = s.archive := rfl
@[simp] theorem State.withPending_intake (s : State) (q : List Instr) : (s.withPending q).intake = s.intake := rfl
@[simp] theorem State.withPending_lane (s : State) (q : List Instr) : (s.withPending q).lane = s.lane := rfl
@[simp] theorem State.withPending_profile (s : State) (q : List Instr) : (s.withPending q).profile = s.profile := rfl
@[simp] theorem State.withPending_reg (s : State) (q : List Instr) : (s.withPending q).reg = s.reg := rfl
@[simp] theorem State.withPending_slots (s : State) (q : List Instr) : (s.withPending q).slots = s.slots := rfl
@[simp] theorem State.withPending_requests (s : State) (q : List Instr) : (s.withPending q).requests = s.requests := rfl
@[simp] theorem State.withPending_occupancy (s : State) (q : List Instr) : (s.withPending q).occupancy = s.occupancy := rfl
@[simp] theorem State.withPending_rules (s : State) (q : List Instr) : (s.withPending q).rules = s.rules := rfl
@[simp] theorem State.withPending_defect (s : State) (q : List Instr) : (s.withPending q).defect = s.defect := rfl
@[simp] theorem State.withPending_repair (s : State) (q : List Instr) : (s.withPending q).repair = s.repair := rfl
@[simp] theorem State.withPending_banks (s : State) (q : List Instr) : (s.withPending q).banks = s.banks := rfl
@[simp] theorem State.withPending_cues (s : State) (q : List Instr) : (s.withPending q).cues = s.cues := rfl
@[simp] theorem State.withPending_grading (s : State) (q : List Instr) : (s.withPending q).grading = s.grading := rfl
@[simp] theorem State.withPending_alarms (s : State) (q : List Instr) : (s.withPending q).alarms = s.alarms := rfl
@[simp] theorem State.withPending_shelf (s : State) (q : List Instr) : (s.withPending q).shelf = s.shelf := rfl
@[simp] theorem State.withPending_cond (s : State) (q : List Instr) : (s.withPending q).cond = s.cond := rfl
@[simp] theorem State.withPending_condQueue (s : State) (q : List Instr) : (s.withPending q).condQueue = s.condQueue := rfl
@[simp] theorem State.withPending_housing (s : State) (q : List Instr) : (s.withPending q).housing = s.housing := rfl
@[simp] theorem State.withPending_mask (s : State) (q : List Instr) : (s.withPending q).mask = s.mask := rfl
@[simp] theorem State.withPending_freeIndex (s : State) (q : List Instr) : (s.withPending q).freeIndex = s.freeIndex := rfl
@[simp] theorem State.withPending_pending (s : State) (q : List Instr) : (s.withPending q).pending = q := rfl

end Sys2Proof.Machine
end

