-- ==== Sys2Proof/Laws/Kept.lean ====
section
/-! SUPPORT. What the shared operations never touch: for each operation one lemma, that it keeps the tables and settings, the
reset input, the queue of commands, the state of the links and what was last sent over them. A statement about what an event
leaves unchanged cites the lemma of the operation and unfolds nothing. -/

namespace Sys2Proof.Machine

/-- What the events inside a step never touch: settings, links, the counter of free values. -/
def Kept (s t : State) : Prop := SettingsKept s t ∧ LinksKept s t ∧ t.freeIndex = s.freeIndex

theorem Kept.refl (s : State) : Kept s s :=
  ⟨⟨rfl, rfl, rfl, rfl, rfl, rfl, rfl⟩, ⟨rfl, rfl, rfl, rfl, rfl, rfl, fun _ => rfl⟩, rfl⟩

variable {s t : State}

/-- An update of a block's own state keeps the rest. -/
theorem updLane_kept (l : Lane) (f : LaneRecord → LaneRecord) (h : Kept s t) : Kept s (updLane l f t) := h
theorem updReg_kept (l : Lane) (f : RegUnit → RegUnit) (h : Kept s t) : Kept s (updReg l f t) := h
theorem updSlots_kept (f : List (Option Slot) → List (Option Slot)) (h : Kept s t) : Kept s (updSlots f t) := h
theorem updRequests_kept (f : List Lane → List Lane) (h : Kept s t) : Kept s (updRequests f t) := h
theorem updOccupancy_kept (l : Lane) (f : Occupancy → Occupancy) (h : Kept s t) : Kept s (updOccupancy l f t) := h
theorem updDefect_kept (f : DefectUnit → DefectUnit) (h : Kept s t) : Kept s (updDefect f t) := h
theorem updRepair_kept (f : RepairUnit → RepairUnit) (h : Kept s t) : Kept s (updRepair f t) := h
theorem updCues_kept (l : Lane) (f : CueState → CueState) (h : Kept s t) : Kept s (updCues l f t) := h
theorem updGrading_kept (f : GradingUnit → GradingUnit) (h : Kept s t) : Kept s (updGrading f t) := h
theorem updAlarms_kept (l : Lane) (f : AlarmUnit → AlarmUnit) (h : Kept s t) : Kept s (updAlarms l f t) := h
theorem updShelf_kept (l : Lane) (f : ShelfUnit → ShelfUnit) (h : Kept s t) : Kept s (updShelf l f t) := h
theorem updCond_kept (l : Lane) (f : ConditionUnit → ConditionUnit) (h : Kept s t) : Kept s (updCond l f t) := h
theorem updCondQueue_kept (f : List ConditionCell → List ConditionCell) (h : Kept s t) : Kept s (updCondQueue f t) := h

/-- An update of an Intake Port that leaves its link's state keeps the rest. -/
theorem updIntake_kept (l : Lane) {f : IntakePort → IntakePort} (hf : ∀ p, (f p).up = p.up) (h : Kept s t) :
    Kept s (updIntake l f t) := by
  refine ⟨h.1, ⟨h.2.1.1, h.2.1.2.1, h.2.1.2.2.1, h.2.1.2.2.2.1, h.2.1.2.2.2.2.1, h.2.1.2.2.2.2.2.1, fun m => ?_⟩, h.2.2⟩
  by_cases e : m = l
  · subst e; simpa [hf] using h.2.1.2.2.2.2.2.2 m
  · simpa [e] using h.2.1.2.2.2.2.2.2 m

/-- Steps that each keep the rest do so one after another. -/
theorem foldl_kept {α : Type} (f : State → α → State) (hf : ∀ t x, Kept s t → Kept s (f t x)) (xs : List α) :
    ∀ t, Kept s t → Kept s (xs.foldl f t) := by
  induction xs with
  | nil => exact fun _ h => h
  | cons x xs ih => exact fun t h => ih _ (hf t x h)


theorem tally_kept (l : Lane) (f : ConditionRecord → ConditionRecord) (h : Kept s t) : Kept s (tally l f t) :=
  updCond_kept _ _ h

theorem placeNumber_kept (l : Lane) (n : Nat) (h : Kept s t) : Kept s (placeNumber l n t) :=
  updLane_kept _ _ (tally_kept _ _ h)

theorem notify_kept (l : Lane) (n : Notice) (h : Kept s t) : Kept s (notify l n t) := by unfold notify; split <;> exact h

theorem updFrame_kept (l : Lane) (n : Nat) (f : Slot → Slot) (h : Kept s t) : Kept s (updFrame l n f t) :=
  updSlots_kept _ h

theorem beginOffer_kept (l : Lane) (n : Nat) (h : Kept s t) : Kept s (beginOffer l n t) :=
  updFrame_kept _ _ _ (updShelf_kept _ _ h)

theorem handOn_kept (l : Lane) (h : Kept s t) : Kept s (handOn l t) := by
  unfold handOn; dsimp only
  repeat' split
  all_goals first
    | with_reducible exact h
    | with_reducible exact beginOffer_kept _ _ (updShelf_kept _ _ h)
    | with_reducible exact updShelf_kept _ _ h

theorem changePause_kept (l : Lane) (f : ShelfUnit → ShelfUnit) (h : Kept s t) : Kept s (changePause l f t) :=
  handOn_kept _ (updShelf_kept _ _ h)

theorem updRecord_kept (l : Lane) (src : Source) (f : AlarmRecord → AlarmRecord) (h : Kept s t) :
    Kept s (updRecord l src f t) :=
  updAlarms_kept _ _ h

theorem placePace_kept (l : Lane) (h : Kept s t) : Kept s (placePace l t) :=
  updIntake_kept _ (fun p => by by_cases e : p.up <;> simp [e]) h

theorem recomputePace_kept (l : Lane) (h : Kept s t) : Kept s (recomputePace l t) := by
  unfold recomputePace; dsimp only
  split
  · with_reducible exact h
  · exact placePace_kept _ (updAlarms_kept _ _ h)

theorem recomputeResponses_kept (l : Lane) (h : Kept s t) : Kept s (recomputeResponses l t) := by
  unfold recomputeResponses; dsimp only
  split
  · exact recomputePace_kept _ h
  · exact changePause_kept _ _ (recomputePace_kept _ h)

theorem raiseAlarm_kept (l : Lane) (src : Source) (frame : Option Nat) (h : Kept s t) :
    Kept s (raiseAlarm l src frame t) := by
  have k : Kept s (recomputeResponses l (tally l (countRaise src) (updRecord l src raisedRecord t))) :=
    recomputeResponses_kept _ (tally_kept _ _ (updRecord_kept _ _ _ h))
  unfold raiseAlarm; dsimp only
  split
  · exact notify_kept _ _ k
  · exact k

theorem evaluateRecord_kept (l : Lane) (src : Source) (h : Kept s t) : Kept s (evaluateRecord l t src) := by
  have k : Kept s (updRecord l src takeMode t) := updRecord_kept _ _ _ h
  unfold evaluateRecord; dsimp only
  repeat' split
  · exact notify_kept _ _ (updRecord_kept _ _ _ k)
  · exact updRecord_kept _ _ _ k
  · exact k

theorem evaluate_kept (l : Lane) (h : Kept s t) : Kept s (evaluate l t) := by
  have k : Kept s (allSources.foldl (evaluateRecord l) t) :=
    foldl_kept _ (fun _ _ k => evaluateRecord_kept _ _ k) _ _ h
  unfold evaluate; dsimp only
  split
  · exact recomputeResponses_kept _ k
  · exact k

theorem evaluateOutside_kept (l : Lane) (h : Kept s t) : Kept s (evaluateOutside l t) := by
  unfold evaluateOutside
  split
  · with_reducible exact h
  · exact evaluate_kept _ h

theorem changePresent_kept (l : Lane) (src : Source) (value : Bool) (frame : Option Nat) (h : Kept s t) :
    Kept s (changePresent l src value frame t) := by
  unfold changePresent; dsimp only
  repeat' split
  · exact h
  · exact evaluateOutside_kept _ (raiseAlarm_kept _ _ _ (updRecord_kept _ _ _ h))
  · exact evaluateOutside_kept _ (updRecord_kept _ _ _ h)

theorem damageSample_kept (l : Lane) (frame : Nat) (isOver : Bool) (h : Kept s t) :
    Kept s (damageSample l frame isOver t) := by
  unfold damageSample; dsimp only
  repeat' split
  all_goals first
    | with_reducible exact changePresent_kept _ _ _ _ (updAlarms_kept _ _ h)
    | with_reducible exact updAlarms_kept _ _ h

theorem registrationSample_kept (l : Lane) (frame : Nat) (i : Bool) (h : Kept s t) :
    Kept s (registrationSample l frame i t) :=
  changePresent_kept _ _ _ _ h

theorem registrationLost_kept (l : Lane) (h : Kept s t) : Kept s (registrationLost l t) :=
  changePresent_kept _ _ _ _ h

theorem transportPresent_kept (l : Lane) (h : Kept s t) : Kept s (transportPresent l t) :=
  changePresent_kept _ _ _ _ h

theorem tensionReport_kept (l : Lane) (x : Tension) (h : Kept s t) : Kept s (tensionReport l x t) :=
  transportPresent_kept _ (updAlarms_kept _ _ h)

theorem silenceReport_kept (l : Lane) (h : Kept s t) : Kept s (silenceReport l t) :=
  transportPresent_kept _ (updAlarms_kept _ _ h)

theorem linesResumed_kept (l : Lane) (h : Kept s t) : Kept s (linesResumed l t) :=
  transportPresent_kept _ (updAlarms_kept _ _ h)

theorem stallReport_kept (l : Lane) (h : Kept s t) : Kept s (stallReport l t) := changePresent_kept _ _ _ _ h

theorem stallAbandoned_kept (l : Lane) (h : Kept s t) : Kept s (stallAbandoned l t) :=
  stallReport_kept _ (updAlarms_kept _ _ h)

theorem stallGranted_kept (l : Lane) (h : Kept s t) : Kept s (stallGranted l t) :=
  stallReport_kept _ (updAlarms_kept _ _ h)

theorem reportWaiting_kept (l : Lane) (h : Kept s t) : Kept s (reportWaiting l t) := by
  unfold reportWaiting
  split
  · with_reducible exact h
  · exact stallReport_kept _ (updShelf_kept _ _ h)

theorem baseShiftSample_kept (l : Lane) (frame : Nat) (shift : Bool) (h : Kept s t) :
    Kept s (baseShiftSample l frame shift t) :=
  changePresent_kept _ _ _ _ h

theorem reviewOccupancy_kept (l : Lane) (h : Kept s t) : Kept s (reviewOccupancy l t) := by
  unfold reviewOccupancy; dsimp only
  split
  · with_reducible exact h
  · exact recomputePace_kept _ (updOccupancy_kept _ _ h)

theorem purgeSplices_kept (l : Lane) (h : Kept s t) : Kept s (purgeSplices l t) := by
  unfold purgeSplices
  split
  · with_reducible exact h
  · exact updReg_kept _ _ h

theorem endExtraction_kept (l : Lane) (n : Nat) (h : Kept s t) : Kept s (endExtraction l n t) := by
  unfold endExtraction
  split
  · exact h
  · exact purgeSplices_kept _ (updDefect_kept _ (tally_kept _ _ (updReg_kept _ _ (updFrame_kept _ _ _ h))))

theorem tryEndExtraction_kept (l : Lane) (n : Nat) (h : Kept s t) : Kept s (tryEndExtraction l t n) := by
  unfold tryEndExtraction
  repeat' split
  · exact endExtraction_kept _ _ h
  · with_reducible exact h
  · exact h

theorem endExtractions_kept (l : Lane) (h : Kept s t) : Kept s (endExtractions l t) :=
  foldl_kept _ (fun _ _ k => tryEndExtraction_kept _ _ k) _ _ h

theorem grantSlot_kept (l : Lane) (p : PendingFrame) (h : Kept s t) : Kept s (grantSlot l p t) :=
  tryEndExtraction_kept _ _ (stallGranted_kept _ (reviewOccupancy_kept _ (placeNumber_kept _ _
    (updRequests_kept _ (updReg_kept _ _ (updSlots_kept _ h))))))

theorem tryGrant_kept (l : Lane) (h : Kept s t) : Kept s (tryGrant l t) := by
  unfold tryGrant
  repeat' split
  · exact grantSlot_kept _ _ h
  · with_reducible exact h
  · exact h

theorem offerFree_kept (h : Kept s t) : Kept s (offerFree t) :=
  foldl_kept _ (fun _ _ k => tryGrant_kept _ k) _ _ h

theorem placeGap_kept (l : Lane) (n : Nat) (h : Kept s t) : Kept s (placeGap l n t) :=
  updShelf_kept _ _ (tally_kept _ _ (placeNumber_kept _ _ h))

theorem abandonPending_kept (l : Lane) (h : Kept s t) : Kept s (abandonPending l t) := by
  unfold abandonPending
  split
  · exact h
  · exact stallAbandoned_kept _ (updGrading_kept _ (placeGap_kept _ _ (updRequests_kept _ (updReg_kept _ _ h))))

theorem abandonLost_kept (l : Lane) (h : Kept s t) : Kept s (abandonLost l t) := by
  unfold abandonLost
  split
  · exact abandonPending_kept _ h
  · exact h

theorem freeFrame_kept (l : Lane) (n : Nat) (h : Kept s t) : Kept s (freeFrame l n t) :=
  offerFree_kept (reviewOccupancy_kept _ (updSlots_kept _ h))

theorem tryRelease_kept (r : FrameRef) (h : Kept s t) : Kept s (tryRelease t r) := by
  unfold tryRelease
  split
  · exact freeFrame_kept _ _ h
  · exact h

theorem releaseSlots_kept (h : Kept s t) : Kept s (releaseSlots t) :=
  foldl_kept _ (fun _ _ k => tryRelease_kept _ k) _ _ h

theorem startDetection_kept (h : Kept s t) : Kept s (startDetection t) := by
  unfold startDetection; dsimp only
  repeat' split
  all_goals first | with_reducible exact h | with_reducible exact updDefect_kept _ h

theorem enterReady_kept (l : Lane) (h : Kept s t) : Kept s (enterReady l t) := by
  unfold enterReady
  repeat' split
  all_goals first | with_reducible exact h | with_reducible exact updRepair_kept _ h

theorem startRepair_kept (h : Kept s t) : Kept s (startRepair t) := by
  have k : Kept s (enterReady .b (enterReady .a t)) := enterReady_kept _ (enterReady_kept _ h)
  unfold startRepair
  generalize enterReady .b (enterReady .a t) = u at k ⊢
  dsimp only
  repeat' split
  all_goals first | with_reducible exact k | with_reducible exact updFrame_kept _ _ _ (updRepair_kept _ k)

theorem fillFirstUnrepairable_kept (l : Lane) (n : Nat) (h : Kept s t) : Kept s (fillFirstUnrepairable l n t) := by
  unfold fillFirstUnrepairable; dsimp only
  repeat' split
  all_goals first | with_reducible exact h | with_reducible exact notify_kept _ _ (updRepair_kept _ h) | with_reducible exact updRepair_kept _ h

theorem swapCues_kept (l : Lane) (frame : Option Nat) (h : Kept s t) : Kept s (swapCues l frame t) := by
  unfold swapCues; dsimp only
  split
  · exact notify_kept _ _ (updCues_kept _ _ h)
  · exact updCues_kept _ _ h

theorem swapIfArmed_kept (l : Lane) (frame : Option Nat) (h : Kept s t) : Kept s (swapIfArmed l frame t) := by
  unfold swapIfArmed
  split
  · exact swapCues_kept _ _ h
  · exact h

theorem enterStamp_kept (l : Lane) (n : Nat) (st : Stamp) (h : Kept s t) : Kept s (enterStamp l n st t) :=
  updGrading_kept _ h

theorem beginGrading_kept (r : FrameRef) (h : Kept s t) : Kept s (beginGrading r t) := by
  unfold beginGrading
  split
  · with_reducible exact h
  · exact updFrame_kept _ _ _ (updGrading_kept _ h)

theorem startGrading_kept (h : Kept s t) : Kept s (startGrading t) := by
  unfold startGrading; dsimp only
  repeat' split
  all_goals first | with_reducible exact h | with_reducible exact beginGrading_kept _ h

theorem finalise_kept (l : Lane) (aborted : Bool) (h : Kept s t) : Kept s (finalise l aborted t) :=
  updCondQueue_kept _ (updCond_kept _ _ h)

theorem becomeIdle_kept (l : Lane) (h : Kept s t) : Kept s (becomeIdle l t) :=
  recomputePace_kept _ (updLane_kept _ _ h)

theorem enterIdle_kept (l : Lane) (h : Kept s t) : Kept s (enterIdle l t) :=
  finalise_kept _ _ (swapIfArmed_kept _ _ (becomeIdle_kept _ h))

theorem tryDrain_kept (l : Lane) (h : Kept s t) : Kept s (tryDrain l t) := by
  unfold tryDrain
  split
  · exact enterIdle_kept _ h
  · exact h

theorem enterDraining_kept (l : Lane) (h : Kept s t) : Kept s (enterDraining l t) :=
  updReg_kept _ _ (updLane_kept _ _ h)

theorem settle_kept (h : Kept s t) : Kept s (settle t) :=
  tryDrain_kept _ (tryDrain_kept _ (startGrading_kept (reportWaiting_kept _ (reportWaiting_kept _ (handOn_kept _ (handOn_kept _
    (startRepair_kept (startDetection_kept (releaseSlots_kept h)))))))))

theorem closeEntry_kept (l : Lane) (i : Nat) (h : Kept s t) : Kept s (closeEntry l i t) := by
  unfold closeEntry; dsimp only
  split
  · exact updShelf_kept _ _ (notify_kept _ _ h)
  · exact updShelf_kept _ _ h

theorem closeIfFailed_kept (l : Lane) (i : Nat) (h : Kept s t) : Kept s (closeIfFailed l i t) := by
  unfold closeIfFailed
  split
  · exact closeEntry_kept _ _ h
  · exact h

theorem closeIfFull_kept (l : Lane) (i : Nat) (h : Kept s t) : Kept s (closeIfFull l i t) := by
  unfold closeIfFull; dsimp only
  split
  · exact closeEntry_kept _ _ (updShelf_kept _ _ h)
  · exact h

theorem updTimedOut_kept (l : Lane) (f : List Nat → List Nat) (h : Kept s t) : Kept s (updTimedOut l f t) := by
  unfold updTimedOut; dsimp only
  split
  · exact updShelf_kept _ _ h
  · exact stallReport_kept _ (updShelf_kept _ _ h)

theorem acknowledgeOk_kept (l : Lane) (o : Offer) (h : Kept s t) : Kept s (acknowledgeOk l o t) :=
  updShelf_kept _ _ (closeIfFailed_kept _ _ (closeIfFull_kept _ _ (updTimedOut_kept _ _ (tally_kept _ _
    (updFrame_kept _ _ _ (updShelf_kept _ _ h))))))

theorem withdrawSending_kept (l : Lane) (h : Kept s t) : Kept s (withdrawSending l t) := h

theorem withdrawOffers_kept (l : Lane) (f : Offer → Bool) (h : Kept s t) : Kept s (withdrawOffers l f t) := by
  unfold withdrawOffers
  refine foldl_kept _ (fun _ _ k => updFrame_kept _ _ _ k) _ _ ?_
  split
  · exact withdrawSending_kept _ (updShelf_kept _ _ h)
  · exact updShelf_kept _ _ h

theorem failOffer_kept (l : Lane) (o : Offer) (timeout : Bool) (h : Kept s t) :
    Kept s (failOffer l o timeout t) := by
  have k := tally_kept l (fun c => { c with shelfFailures := heldAdd countTop c.shelfFailures 1 })
    (withdrawOffers_kept l (fun x => x.number = o.number || o.frame < x.frame) (updShelf_kept l (updEntry o.entry fun e =>
      if e.status = .opened then { e with status := .failed, firstFailed := some o.frame } else e) h))
  unfold failOffer; dsimp only
  refine updShelf_kept _ _ (closeIfFailed_kept _ _ (updShelf_kept _ _ ?_))
  split
  · exact updTimedOut_kept _ _ k
  · exact k

theorem staleAck_kept (l : Lane) (h : Kept s t) : Kept s (staleAck l t) := tally_kept _ _ (updShelf_kept _ _ h)

theorem shelfLinkReset_kept (l : Lane) (h : Kept s t) : Kept s (shelfLinkReset l t) := by
  have k := updShelf_kept l returnGap (withdrawOffers_kept l (fun _ => true) (updShelf_kept l freeWithdrawn h))
  unfold shelfLinkReset; dsimp only
  refine updShelf_kept _ _ (changePause_kept _ _ ?_)
  split
  · exact closeEntry_kept _ _ k
  · exact k

theorem shelfAbort_kept (l : Lane) (h : Kept s t) : Kept s (shelfAbort l t) := by
  unfold shelfAbort; dsimp only
  refine updShelf_kept _ _ (updShelf_kept _ _ ?_)
  split
  · exact closeEntry_kept _ _ (updShelf_kept _ _ (updShelf_kept _ _ (withdrawSending_kept _ h)))
  · exact updShelf_kept _ _ (updShelf_kept _ _ (withdrawSending_kept _ h))

theorem shelfReset_kept (l : Lane) (h : Kept s t) : Kept s (shelfReset l t) :=
  updShelf_kept _ _ (withdrawSending_kept _ h)

theorem restartSilence_kept (l : Lane) (h : Kept s t) : Kept s (restartSilence l t) :=
  updIntake_kept _ (fun _ => rfl) h

theorem resumeLines_kept (l : Lane) (h : Kept s t) : Kept s (resumeLines l t) := by
  unfold resumeLines
  split
  · exact linesResumed_kept _ (updIntake_kept _ (fun _ => rfl) h)
  · exact h

theorem handLine_kept (l : Lane) (line : StripLine) (h : Kept s t) : Kept s (handLine l line t) := by
  unfold handLine; dsimp only
  split
  · exact h
  · refine settle_kept (endExtractions_kept _ (abandonLost_kept _ (updReg_kept _ _ ?_)))
    split
    · exact tally_kept _ _ h
    · exact h

theorem completeLine_kept (l : Lane) (a : Assembly) (truncated : Bool) (h : Kept s t) :
    Kept s (completeLine l a truncated t) := by
  unfold completeLine; dsimp only
  refine updIntake_kept _ (fun _ => rfl) (foldl_kept _ (fun _ _ k => handLine_kept _ _ k) _ _ ?_)
  split
  · exact tally_kept _ _ (updIntake_kept _ (fun _ => rfl) h)
  · exact updIntake_kept _ (fun _ => rfl) h

theorem extendLine_kept (l : Lane) (a : Assembly) (pixels : List Pixel) (last : Bool) (h : Kept s t) :
    Kept s (extendLine l a pixels last t) := by
  unfold extendLine; dsimp only
  split
  · exact completeLine_kept _ _ _ h
  · exact updIntake_kept _ (fun _ => rfl) h

theorem dropLine_kept (l : Lane) (h : Kept s t) : Kept s (dropLine l t) := updIntake_kept _ (fun _ => rfl) h

theorem assembleLine_kept (l : Lane) (m : LineNumber) (pixels : List Pixel) (last : Bool) (h : Kept s t) :
    Kept s (assembleLine l m pixels last t) := by
  unfold assembleLine; dsimp only
  repeat' split
  all_goals first
    | with_reducible exact extendLine_kept _ _ _ _ h
    | with_reducible exact extendLine_kept _ _ _ _ (completeLine_kept _ _ _ h)
    | with_reducible exact dropLine_kept _ h

theorem takeLine_kept (l : Lane) (m : LineNumber) (pixels : List Pixel) (last : Bool) (h : Kept s t) :
    Kept s (takeLine l m pixels last t) :=
  assembleLine_kept _ _ _ _ (resumeLines_kept _ (restartSilence_kept _ h))

theorem requestSlot_kept (l : Lane) (p : PendingFrame) (h : Kept s t) : Kept s (requestSlot l p t) :=
  abandonLost_kept _ (tryGrant_kept _ (releaseSlots_kept (updRequests_kept _ (updReg_kept _ _ (abandonPending_kept _ h)))))

theorem stampBoundary_kept (l : Lane) (n : Nat) (h : Kept s t) : Kept s (stampBoundary l n t) :=
  enterStamp_kept _ _ _ (swapIfArmed_kept _ _ h)

theorem closeFrame_kept (l : Lane) (n : Nat) (reference closing : Edge) (i : Bool) (h : Kept s t) :
    Kept s (closeFrame l n reference closing i t) := by
  have k := fun (r : FrameReg) (p : PendingFrame) => purgeSplices_kept l (requestSlot_kept l p (stampBoundary_kept l n
    (updReg_kept l (fun u => { u with lastClosing := some closing.position, openFrame := some [closing] })
      (evaluate_kept l (registrationSample_kept l n r.interpolated
        (updReg_kept l (fun u => { u with prevRatio := some r.ratio, unsmoothedNext := false })
          (updLane_kept l (fun x => { x with nextFrame := nextNumber n }) h)))))))
  unfold closeFrame; dsimp only
  split
  · exact enterDraining_kept _ (k _ _)
  · exact k _ _

theorem frameBoundary_kept (l : Lane) (edges : List Edge) (h : Kept s t) : Kept s (frameBoundary l edges t) := by
  unfold frameBoundary
  split
  · exact settle_kept (closeFrame_kept _ _ _ _ _ h)
  · exact h

theorem takeEdge_kept (l : Lane) (e : Edge) (h : Kept s t) : Kept s (takeEdge l t e) := by
  have k : Kept s (if e.synthesized then
      tally l (fun c => { c with synthesized := heldAdd countTop c.synthesized 1 }) t else t) := by
    split
    · exact tally_kept _ _ h
    · exact h
  unfold takeEdge; dsimp only
  split
  · exact h
  · generalize (if e.synthesized then
      tally l (fun c => { c with synthesized := heldAdd countTop c.synthesized 1 }) t else t) = u at k ⊢
    repeat' split
    all_goals first | exact k | with_reducible exact frameBoundary_kept _ _ (updReg_kept _ _ k)

theorem takeEdges_kept (l : Lane) (es : List Edge) (h : Kept s t) : Kept s (takeEdges l es t) :=
  foldl_kept _ (fun _ _ k => takeEdge_kept _ _ k) _ _ h

theorem lockLane_kept (l : Lane) (run : List Position) (h : Kept s t) : Kept s (lockLane l run t) :=
  takeEdges_kept _ _ (updReg_kept _ _ (updLane_kept _ _ h))

theorem placeGaps_kept (l : Lane) (n k : Nat) (h : Kept s t) : Kept s (placeGaps l n k t) :=
  foldl_kept _ (fun _ _ k => placeGap_kept _ _ k) _ _ h

theorem relockRunning_kept (l : Lane) (n k : Nat) (run : List Position) (h : Kept s t) :
    Kept s (relockRunning l n k run t) :=
  takeEdges_kept _ _ (updReg_kept _ _ (updGrading_kept _ (updLane_kept _ _ (placeGaps_kept _ _ _ h))))

theorem relockDraining_kept (l : Lane) (n : Nat) (h : Kept s t) : Kept s (relockDraining l n t) := by
  unfold relockDraining
  exact enterDraining_kept _ (updReg_kept _ _ (updLane_kept _ _ (placeGaps_kept _ _ _ h)))

theorem relockLane_kept (l : Lane) (run : List Position) (h : Kept s t) : Kept s (relockLane l run t) := by
  have k := tally_kept l (fun c => { c with discontinuities := heldAdd countTop c.discontinuities 1 }) h
  unfold relockLane; dsimp only
  repeat' split
  · exact k
  · exact relockDraining_kept _ _ k
  · exact relockRunning_kept _ _ _ _ k

theorem loseRegistration_kept (l : Lane) (q : Position) (h : Kept s t) : Kept s (loseRegistration l q t) :=
  registrationLost_kept _ (tally_kept _ _ (updReg_kept _ _ (updLane_kept _ _ h)))

theorem acceptAsLast_kept (l : Lane) (q : Position) (h : Kept s t) : Kept s (acceptAsLast l q t) :=
  updReg_kept _ _ h

theorem seekEdge_kept (l : Lane) (q : Position) (b : Bool) (h : Kept s t) : Kept s (seekEdge l q b t) := by
  unfold seekEdge; dsimp only
  repeat' split
  all_goals first
    | with_reducible exact updReg_kept _ _ h
    | with_reducible exact relockLane_kept _ _ (updReg_kept _ _ h)
    | with_reducible exact lockLane_kept _ _ (updReg_kept _ _ h)

theorem spuriousEdge_kept (l : Lane) (h : Kept s t) : Kept s (spuriousEdge l t) := tally_kept _ _ h

theorem takeReal_kept (l : Lane) (q : Position) (h : Kept s t) : Kept s (takeReal l q t) := by
  unfold takeReal
  split
  · exact takeEdge_kept _ _ (acceptAsLast_kept _ _ h)
  · exact h

theorem acceptedEdge_kept (l : Lane) (q : Position) (h : Kept s t) : Kept s (acceptedEdge l q t) := by
  unfold acceptedEdge
  split
  · exact takeReal_kept _ _ h
  · exact seekEdge_kept _ _ _ h

theorem missingEdges_kept (l : Lane) (last q : Position) (k : Nat) (h : Kept s t) :
    Kept s (missingEdges l last q k t) := by
  unfold missingEdges
  repeat' split
  · exact takeReal_kept _ _ (takeEdges_kept _ _ h)
  · exact loseRegistration_kept _ _ h
  · exact seekEdge_kept _ _ _ h

theorem takeClassed_kept (l : Lane) (last q : Position) (h : Kept s t) (c : EdgeClass) :
    Kept s (takeClassed l last q t c) := by
  cases c
  · exact spuriousEdge_kept _ h
  · exact acceptedEdge_kept _ _ h
  · exact missingEdges_kept _ _ _ _ h

theorem compareEdge_kept (l : Lane) (last q : Position) (h : Kept s t) : Kept s (compareEdge l last q t) :=
  takeClassed_kept _ _ _ h _

theorem perfEdge_kept (l : Lane) (q : Position) (h : Kept s t) : Kept s (perfEdge l q t) := by
  unfold perfEdge
  repeat' split
  all_goals first | with_reducible exact h | with_reducible exact updReg_kept _ _ h | with_reducible exact compareEdge_kept _ _ _ h

theorem takePerf_kept (l : Lane) (q : Position) (h : Kept s t) : Kept s (takePerf l q t) := by
  have k := restartSilence_kept l h
  unfold takePerf; dsimp only
  split
  · exact k
  · exact k
  · exact settle_kept (perfEdge_kept _ _ k)

theorem takeSplice_kept (l : Lane) (x : Option Position) (h : Kept s t) : Kept s (takeSplice l x t) := by
  unfold takeSplice
  repeat' split
  all_goals first | with_reducible exact h | with_reducible exact updReg_kept _ _ h

theorem takeTransport_kept (l : Lane) (x : Tension) (y : Option Position) (h : Kept s t) :
    Kept s (takeTransport l x y t) :=
  takeSplice_kept _ _ (tensionReport_kept _ _ (restartSilence_kept _ h))

theorem expireSilence_kept (l : Lane) (h : Kept s t) : Kept s (expireSilence l t) :=
  silenceReport_kept _ (updIntake_kept _ (fun _ => rfl) h)

theorem endDetection_kept (l : Lane) (x : Slot) (h : Kept s t) : Kept s (endDetection l x t) :=
  updFrame_kept _ _ _ (updDefect_kept _ (tally_kept _ _ (damageSample_kept _ _ _ (updFrame_kept _ _ _ h))))

theorem finishDetection_kept (h : Kept s t) : Kept s (finishDetection t) := by
  unfold finishDetection
  repeat' split
  all_goals first | with_reducible exact h | with_reducible exact settle_kept (endDetection_kept _ _ h)

theorem registerRepair_kept (l : Lane) (n : Nat) (o : RepairOutcome) (h : Kept s t) :
    Kept s (registerRepair l n o t) := by
  cases o
  · exact h
  · exact h
  · exact fillFirstUnrepairable_kept _ _ h

theorem endRepair_kept (l : Lane) (x : Slot) (h : Kept s t) : Kept s (endRepair l x t) :=
  updRepair_kept _ (registerRepair_kept _ _ _ (tally_kept _ _ (updFrame_kept _ _ _ h)))

theorem finishRepair_kept (h : Kept s t) : Kept s (finishRepair t) := by
  unfold finishRepair
  repeat' split
  all_goals first | with_reducible exact h | with_reducible exact settle_kept (endRepair_kept _ _ h)

theorem reportShift_kept (l : Lane) (n : Nat) (b : Bool) (h : Kept s t) : Kept s (reportShift l n b t) := by
  unfold reportShift; dsimp only
  split
  · exact tally_kept _ _ (baseShiftSample_kept _ _ _ h)
  · exact baseShiftSample_kept _ _ _ h

theorem endGrading_kept (l : Lane) (g : Graded) (x : Slot) (h : Kept s t) : Kept s (endGrading l g x t) :=
  updFrame_kept _ _ _ (updGrading_kept _ (reportShift_kept _ _ _ (updGrading_kept _ (updFrame_kept _ _ _ h))))

theorem finishGrading_kept (h : Kept s t) : Kept s (finishGrading t) := by
  unfold finishGrading
  repeat' split
  all_goals first | with_reducible exact h | with_reducible exact settle_kept (endGrading_kept _ _ _ h)

theorem takeAck_kept (l : Lane) (n : OfferNumber) (ok : Bool) (h : Kept s t) : Kept s (takeAck l n ok t) := by
  unfold takeAck
  split
  · exact staleAck_kept _ h
  · refine settle_kept ?_
    split
    · exact acknowledgeOk_kept _ _ h
    · exact failOffer_kept _ _ _ h

theorem freeLane_kept (l : Lane) (h : Kept s t) : Kept s (freeLane l t) :=
  offerFree_kept (reviewOccupancy_kept _ (updRequests_kept _ (updSlots_kept _ h)))

theorem countDiscards_kept (l : Lane) (h : Kept s t) : Kept s (countDiscards l t) := by
  unfold countDiscards; dsimp only
  split
  · exact tally_kept _ _ h
  · exact tally_kept _ _ (placeNumber_kept _ _ (tally_kept _ _ h))

theorem abandonWork_kept (l : Lane) (h : Kept s t) : Kept s (abandonWork l t) :=
  updGrading_kept _ (updRepair_kept _ (updDefect_kept _ h))

theorem abortPass_kept (l : Lane) (h : Kept s t) : Kept s (abortPass l t) :=
  settle_kept (finalise_kept _ _ (swapIfArmed_kept _ _ (freeLane_kept _ (shelfAbort_kept _ (abandonWork_kept _
    (updReg_kept _ _ (becomeIdle_kept _ (countDiscards_kept _ h))))))))

theorem beginPass_kept (l : Lane) (reel : BitVec 32) (first phase : Nat) (h : Kept s t) :
    Kept s (beginPass l reel first phase t) :=
  recomputePace_kept _ (updCond_kept _ _ (updShelf_kept _ _ (updCues_kept _ _ (updGrading_kept _ (updRepair_kept _
    (updDefect_kept _ (updIntake_kept _ (fun _ => rfl) (updReg_kept _ _ (updLane_kept _ _ h)))))))))

theorem resetPass_kept (l : Lane) (h : Kept s t) : Kept s (resetPass l t) :=
  settle_kept (recomputeResponses_kept _ (freeLane_kept _ (updCond_kept _ _ (updAlarms_kept _ _ (shelfReset_kept _
    (updCues_kept _ _ (updGrading_kept _ (updRepair_kept _ (abandonWork_kept _ (updIntake_kept _ (fun _ => rfl)
      (updReg_kept _ _ (updLane_kept _ _ h))))))))))))

theorem acknowledge_kept (l : Lane) (named : List Source) (h : Kept s t) : Kept s (acknowledge l named t) :=
  evaluateOutside_kept _ (foldl_kept _ (fun _ _ k => updRecord_kept _ _ _ k) _ _ h)

theorem giveAlarm_kept (l : Lane) (src : Source) (m : Mode) (rs : Responses) (h : Kept s t) :
    Kept s (giveAlarm l src m rs t) := by
  unfold giveAlarm; dsimp only
  split
  · exact recomputeResponses_kept _ (updRecord_kept _ _ _ h)
  · exact updRecord_kept _ _ _ h

end Sys2Proof.Machine
end

