-- ==== Sys2Proof/WellFormed.lean ====
section
/-! DEFINITION. When a command is one the links can bring: the payload of a COMMAND cell fits its cell (R179), a LINE
cell's pixels fit its payload (R170), a dropped cell has 256 bytes (R179). -/

namespace Sys2Proof

/-- A COMMAND cell's payload is at most 240 bytes (R179). -/
def CommandCell.wf (c : CommandCell) : Bool := c.payload.length ≤ 240

/-- A command the links, timers and engines can bring. -/
def Instr.wf : Instr → Bool
  | .lineCell _ _ pixels _ => pixels.length ≤ 30
  | .cellCheckDrop _ bytes => bytes.length == 256
  | .commandOverrun _ c | .unknownCommand _ c | .beginReel c | .endReel c | .abortReel c | .resetLane c
  | .loadProfile c | .writeRules c | .writeBank c | .writeCues c | .commitCues c | .cancelCues c | .writeHousing c
  | .setAlarm c | .ackAlarm c | .setPaceMarks c | .writeShelf c | .shelfConfig c | .shelfStart c | .shelfPause c
  | .shelfResume c | .shelfStop c | .readLane c | .readShelf c | .readCondition c | .readFirstUnrepairable c
  | .queryPart c | .setNotices c => c.wf
  | .powerOnReset _ | .archiveLinkReset | .archiveLinkUp | .intakeLinkReset _ | .intakeLinkUp _ | .perfCell _ _
  | .transportCell _ _ _ | .storeAck _ _ _ | .silenceExpiry _ | .ackTimeoutExpiry _ _ | .detectionEnd | .repairEnd
  | .gradingEnd | .archiveCellSent _ | .paceCellSent _ | .resetInputLow => true

end Sys2Proof
end

