-- ==== Sys2Proof/Laws/PerInstr.lean ====
section
/-! SUPPORT. The family Wf, one lemma per constructor of `Instr`: a command that a COMMAND cell carries is the command its code
names (R171, R174), and it is well-formed exactly where its payload fits the cell (R179). -/

namespace Sys2Proof.Laws

/-- What the family says of a command. -/
def Wf.Statement (i : Instr) : Prop :=
  ∀ code c, Machine.cellOf i = some (code, c) → commandOf code c = i ∧ i.wf = c.wf

/-- A command of the table: its code and cell. -/
theorem Wf.of_cell {i : Instr} {code : Byte} {c : CommandCell} (h : Machine.cellOf i = some (code, c))
    (hi : commandOf code c = i) (hw : i.wf = c.wf) : Wf.Statement i := by
  intro k d hk
  rw [h] at hk
  cases hk
  exact ⟨hi, hw⟩

/-- A command that no COMMAND cell carries. -/
theorem Wf.of_none {i : Instr} (h : Machine.cellOf i = none) : Wf.Statement i := by
  intro k d hk
  rw [h] at hk
  cases hk

/-- A code outside the command table names UNKNOWN_COMMAND. -/
theorem commandOf_unknown (code : Byte) (c : CommandCell) (h : codeDefined code = false) :
    commandOf code c = .unknownCommand code c := by
  unfold commandOf
  split <;> first | rfl | (rename_i hn; simp [codeDefined, hn] at h)

theorem Wf.powerOnReset (heldLongEnough : Bool) : Wf.Statement (.powerOnReset heldLongEnough) := Wf.of_none rfl

theorem Wf.archiveLinkReset : Wf.Statement .archiveLinkReset := Wf.of_none rfl

theorem Wf.archiveLinkUp : Wf.Statement .archiveLinkUp := Wf.of_none rfl

theorem Wf.intakeLinkReset (port : Lane) : Wf.Statement (.intakeLinkReset port) := Wf.of_none rfl

theorem Wf.intakeLinkUp (port : Lane) : Wf.Statement (.intakeLinkUp port) := Wf.of_none rfl

theorem Wf.cellCheckDrop (link : Link) (bytes : List Byte) : Wf.Statement (.cellCheckDrop link bytes) := Wf.of_none rfl

theorem Wf.lineCell (port : Lane) (number : LineNumber) (pixels : List Pixel) (last : Bool) : Wf.Statement (.lineCell port number pixels last) := Wf.of_none rfl

theorem Wf.perfCell (port : Lane) (position : Position) : Wf.Statement (.perfCell port position) := Wf.of_none rfl

theorem Wf.transportCell (port : Lane) (tension : Tension) (splice : Option Position) : Wf.Statement (.transportCell port tension splice) := Wf.of_none rfl

theorem Wf.storeAck (lane : Byte) (offer : OfferNumber) (result : Byte) : Wf.Statement (.storeAck lane offer result) := Wf.of_none rfl

theorem Wf.silenceExpiry (port : Lane) : Wf.Statement (.silenceExpiry port) := Wf.of_none rfl

theorem Wf.ackTimeoutExpiry (lane : Lane) (offer : OfferNumber) : Wf.Statement (.ackTimeoutExpiry lane offer) := Wf.of_none rfl

theorem Wf.detectionEnd : Wf.Statement .detectionEnd := Wf.of_none rfl

theorem Wf.repairEnd : Wf.Statement .repairEnd := Wf.of_none rfl

theorem Wf.gradingEnd : Wf.Statement .gradingEnd := Wf.of_none rfl

theorem Wf.archiveCellSent (extent : SendExtent) : Wf.Statement (.archiveCellSent extent) := Wf.of_none rfl

theorem Wf.paceCellSent (port : Lane) : Wf.Statement (.paceCellSent port) := Wf.of_none rfl

theorem Wf.commandOverrun (code : Byte) (cell : CommandCell) : Wf.Statement (.commandOverrun code cell) := Wf.of_none rfl

theorem Wf.unknownCommand (code : Byte) (cell : CommandCell) : Wf.Statement (.unknownCommand code cell) := by
  intro k d h
  cases hd : codeDefined code with
  | true => simp [Machine.cellOf, hd] at h
  | false =>
    simp only [Machine.cellOf, hd, Bool.false_eq_true, if_false, Option.some.injEq, Prod.mk.injEq] at h
    obtain ⟨rfl, rfl⟩ := h
    exact ⟨commandOf_unknown code cell hd, rfl⟩

theorem Wf.beginReel (cell : CommandCell) : Wf.Statement (.beginReel cell) := Wf.of_cell rfl rfl rfl

theorem Wf.endReel (cell : CommandCell) : Wf.Statement (.endReel cell) := Wf.of_cell rfl rfl rfl

theorem Wf.abortReel (cell : CommandCell) : Wf.Statement (.abortReel cell) := Wf.of_cell rfl rfl rfl

theorem Wf.resetLane (cell : CommandCell) : Wf.Statement (.resetLane cell) := Wf.of_cell rfl rfl rfl

theorem Wf.loadProfile (cell : CommandCell) : Wf.Statement (.loadProfile cell) := Wf.of_cell rfl rfl rfl

theorem Wf.writeRules (cell : CommandCell) : Wf.Statement (.writeRules cell) := Wf.of_cell rfl rfl rfl

theorem Wf.writeBank (cell : CommandCell) : Wf.Statement (.writeBank cell) := Wf.of_cell rfl rfl rfl

theorem Wf.writeCues (cell : CommandCell) : Wf.Statement (.writeCues cell) := Wf.of_cell rfl rfl rfl

theorem Wf.commitCues (cell : CommandCell) : Wf.Statement (.commitCues cell) := Wf.of_cell rfl rfl rfl

theorem Wf.cancelCues (cell : CommandCell) : Wf.Statement (.cancelCues cell) := Wf.of_cell rfl rfl rfl

theorem Wf.writeHousing (cell : CommandCell) : Wf.Statement (.writeHousing cell) := Wf.of_cell rfl rfl rfl

theorem Wf.setAlarm (cell : CommandCell) : Wf.Statement (.setAlarm cell) := Wf.of_cell rfl rfl rfl

theorem Wf.ackAlarm (cell : CommandCell) : Wf.Statement (.ackAlarm cell) := Wf.of_cell rfl rfl rfl

theorem Wf.setPaceMarks (cell : CommandCell) : Wf.Statement (.setPaceMarks cell) := Wf.of_cell rfl rfl rfl

theorem Wf.writeShelf (cell : CommandCell) : Wf.Statement (.writeShelf cell) := Wf.of_cell rfl rfl rfl

theorem Wf.shelfConfig (cell : CommandCell) : Wf.Statement (.shelfConfig cell) := Wf.of_cell rfl rfl rfl

theorem Wf.shelfStart (cell : CommandCell) : Wf.Statement (.shelfStart cell) := Wf.of_cell rfl rfl rfl

theorem Wf.shelfPause (cell : CommandCell) : Wf.Statement (.shelfPause cell) := Wf.of_cell rfl rfl rfl

theorem Wf.shelfResume (cell : CommandCell) : Wf.Statement (.shelfResume cell) := Wf.of_cell rfl rfl rfl

theorem Wf.shelfStop (cell : CommandCell) : Wf.Statement (.shelfStop cell) := Wf.of_cell rfl rfl rfl

theorem Wf.readLane (cell : CommandCell) : Wf.Statement (.readLane cell) := Wf.of_cell rfl rfl rfl

theorem Wf.readShelf (cell : CommandCell) : Wf.Statement (.readShelf cell) := Wf.of_cell rfl rfl rfl

theorem Wf.readCondition (cell : CommandCell) : Wf.Statement (.readCondition cell) := Wf.of_cell rfl rfl rfl

theorem Wf.readFirstUnrepairable (cell : CommandCell) : Wf.Statement (.readFirstUnrepairable cell) := Wf.of_cell rfl rfl rfl

theorem Wf.queryPart (cell : CommandCell) : Wf.Statement (.queryPart cell) := Wf.of_cell rfl rfl rfl

theorem Wf.setNotices (cell : CommandCell) : Wf.Statement (.setNotices cell) := Wf.of_cell rfl rfl rfl

theorem Wf.resetInputLow : Wf.Statement .resetInputLow := Wf.of_none rfl

end Sys2Proof.Laws
end

