-- ==== Sys2Proof/Laws/Slots.lean ====
section
/-! SUPPORT. Where a frame found in the Slot Table stands: what `frameSlot` and `frameAt` say of the lane's slots. -/

namespace Sys2Proof.Machine

/-- The slot found for a frame is one of the lane's, of its current pass, and holds that frame. -/
theorem frameSlot_mem {l : Lane} {n : Nat} {x : Slot} {s : State} (h : frameSlot l n s = some x) :
    x ∈ laneSlots l s ∧ x.serial = (s.lane.get l).serial ∧ x.frame = n := by
  have hf := List.find?_some h
  simp only [holdsFrame, Bool.and_eq_true, decide_eq_true_eq] at hf
  exact ⟨List.mem_filter.mpr ⟨List.mem_of_find?_eq_some h, decide_eq_true hf.1.1⟩, hf.1.2, hf.2⟩

/-- A frame held at one of some stages has a slot of the lane at one of them. -/
theorem frameAt_slot {l : Lane} {n : Nat} {stages : List Stage} {s : State} (h : frameAt l n stages s = true) :
    ∃ x ∈ laneSlots l s, x.frame = n ∧ x.at stages = true := by
  unfold frameAt at h
  cases hx : frameSlot l n s with
  | none => rw [hx] at h; cases h
  | some x => rw [hx] at h; exact ⟨x, (frameSlot_mem hx).1, (frameSlot_mem hx).2.2, h⟩

/-- No frame of a lane is held at any of some stages where no slot of the lane is at one. -/
theorem frameAt_none {l : Lane} {stages : List Stage} {s : State} (h : ∀ x ∈ laneSlots l s, x.at stages = false) (n : Nat) :
    frameAt l n stages s = false := by
  cases hn : frameAt l n stages s with
  | false => rfl
  | true =>
    obtain ⟨x, hx, -, ha⟩ := frameAt_slot hn
    rw [h x hx] at ha; cases ha

end Sys2Proof.Machine
end

