-- ==== Sys2Proof/Tests/Slice0.lean ====
section
/-! SUPPORT. The model's own tests: the WellFormed smoke; decoding of cells written out byte by byte; the spec's worked
examples; and for each obligation with hypotheses, a witness that meets them. -/

namespace Sys2Proof.Tests

set_option Elab.async false

open Sys2Proof.Machine

/-! ### Helpers -/

/-- Every link UP, after power-on. -/
def linked : State :=
  { State.reset with
    archive := { State.reset.archive with up := true }
    intake := both { State.reset.intake.a with up := true }
    shelf := both { shelfOn with pauseLink := false } }

/-- A lane record in a pass state. -/
def inState (x : PassState) : LaneRecord := { laneRecordOn with state := x, profileValid := true, nextFrame := some 7 }

/-- Both lanes in a pass state, their condition records OPEN. -/
def running (x : PassState) : State :=
  { linked with lane := both (inState x), cond := both { conditionOn with condition := .opened } }

/-- A COMMAND cell for lane A. -/
def cmd (payload : List Byte) : CommandCell := { lane := 0#8, tag := 7#8, payload := payload }

/-- The state after a command. -/
def after (i : Instr) (s : State) : State :=
  match exec i s with
  | .next t => t
  | .fault _ => s
  | .refused _ => s

/-- Shelving of both lanes replaced. -/
def withShelf (u : ShelfUnit) (s : State) : State := { s with shelf := both u }

/-- Registration of both lanes replaced. -/
def withReg (u : RegUnit) (s : State) : State := { s with reg := both u }

/-! ### WellFormed -/

theorem test_wf_line_of_31_pixels_refused :
    (Instr.lineCell .a 1 (List.replicate 31 blackPixel) true).wf = false := by decide +kernel

theorem test_wf_dropped_cell_of_255_bytes_refused :
    (Instr.cellCheckDrop .archive (List.replicate 255 0#8)).wf = false := by decide +kernel

theorem test_wf_payload_of_241_bytes_refused : (Instr.beginReel (cmd (List.replicate 241 0#8))).wf = false := by decide +kernel

theorem test_wf_full_cells_accepted :
    (Instr.beginReel (cmd (List.replicate 240 0#8))).wf = true
      ∧ (Instr.lineCell .a 1 (List.replicate 30 blackPixel) true).wf = true := by decide +kernel

/-! ### Decoding: cells written out byte by byte from R170, R179 to R182 -/

/-- The check over the nine digits 1 to 9, generator 0x1021, initial value 0xFFFF, nothing reflected, final XOR 0: the published
check value of that CRC. -/
theorem test_crc : crc16 [0x31#8, 0x32#8, 0x33#8, 0x34#8, 0x35#8, 0x36#8, 0x37#8, 0x38#8, 0x39#8] = 0x29B1#16 := by decide +kernel

/-- Header bytes 0 to 5, the check, bytes 8 to 15 and the payload; the zeros after the payload are left out, to keep the kernel's
evaluation of the check short. -/
def wire (front back payload : List Byte) : List Byte :=
  let rest := back ++ payload
  let check := (crc16 (front ++ rest)).toNat
  front ++ [BitVec.ofNat 8 check, BitVec.ofNat 8 (check / 256)] ++ rest

/-- The PERF edge at position 0x123456789. -/
theorem test_arrival_perf :
    let bytes := wire [0x02#8, 1#8, 0#8, 0#8, 0#8, 0#8] [0x89#8, 0x67#8, 0x45#8, 0x23#8, 0x01#8, 0#8, 0#8, 0#8] []
    dropClass (.intake .b) bytes = none ∧ intakeArrival .b bytes = .perfCell .b 0x123456789#36 := by decide +kernel

/-- TIGHT, a splice at position 5. -/
theorem test_arrival_transport :
    let bytes := wire [0x03#8, 0#8, 0#8, 0#8, 0#8, 0#8] [5#8, 0#8, 0#8, 0#8, 0#8, 1#8, 2#8, 0#8] []
    dropClass (.intake .a) bytes = none ∧ intakeArrival .a bytes = .transportCell .a .tight (some 5#36) := by decide +kernel

/-- Line 258, one pixel, LAST. -/
theorem test_arrival_line :
    let bytes := wire [0x01#8, 0#8, 0#8, 0#8, 8#8, 0#8] [2#8, 1#8, 0#8, 0#8, 1#8, 1#8, 0#8, 0#8]
      [1#8, 0#8, 0#8, 1#8, 0xFF#8, 0xFF#8, 9#8, 0#8]
    dropClass (.intake .a) bytes = none ∧ intakeArrival .a bytes
      = .lineCell .a 258#32 [{ r := 1#16, g := 256#16, b := 0xFFFF#16, ir := 9#16 }] true := by decide +kernel

/-- FAIL of offer 0x0203 of lane B. -/
theorem test_arrival_store_ack :
    let bytes := wire [0x17#8, 1#8, 0#8, 0#8, 0#8, 0#8] [3#8, 2#8, 2#8, 0#8, 0#8, 0#8, 0#8, 0#8] []
    dropClass .archive bytes = none ∧ archiveArrival bytes = .storeAck 1#8 0x0203#16 2#8 := by decide +kernel

/-- BEGIN_REEL with one payload byte, SHELF_START, and a code that is not in the table. -/
theorem test_arrival_commands :
    archiveArrival (wire [0x10#8, 0#8, 7#8, 0#8, 1#8, 0#8] [1#8, 0#8, 0#8, 0#8, 0#8, 0#8, 0#8, 0#8] [9#8])
        = .beginReel (cmd [9#8])
      ∧ archiveArrival (wire [0x10#8, 0#8, 7#8, 0#8, 0#8, 0#8] [0x32#8, 0#8, 0#8, 0#8, 0#8, 0#8, 0#8, 0#8] [])
        = .shelfStart (cmd [])
      ∧ archiveArrival (wire [0x10#8, 0#8, 7#8, 0#8, 0#8, 0#8] [0x99#8, 0#8, 0#8, 0#8, 0#8, 0#8, 0#8, 0#8] [])
        = .unknownCommand 0x99#8 (cmd []) := by decide +kernel

/-- A cell whose check fails; a LINE cell whose payload does not fit its pixel count; a PACE cell that arrives. -/
theorem test_arrival_drops :
    dropClass .archive (List.replicate 20 1#8) = some .checkError
      ∧ dropClass (.intake .a) (wire [0x01#8, 0#8, 0#8, 0#8, 8#8, 0#8] [2#8, 1#8, 0#8, 0#8, 2#8, 1#8, 0#8, 0#8] [])
        = some .malformed
      ∧ dropClass (.intake .a) (wire [0x04#8, 0#8, 0#8, 0#8, 0#8, 0#8] [0#8, 0#8, 0#8, 0#8, 0#8, 0#8, 0#8, 0#8] [])
        = some .malformed := by decide +kernel

/-! ### The spec's worked examples -/

/-- The profile of section 2.9. -/
def profile29 : Profile :=
  { profileOn with k := 4, pitch := 12288, height := 3072, smoothing := 2, frameOffset := -320, baseOffset := 320
                   baseLines := 8, baseColumns := { x0 := 100, x1 := 163 } }

theorem test_expected_pitch : expectedPitch profile29 (some 1040000) = 12188 := by decide +kernel

theorem test_registration_of_the_worked_case :
    registerFrame profile29 false (some 1040000) 5000000 5048610 false
      = { ratio := 1039253, span := 48715, origin := 4999680, reference := 5000000, closing := 5048610
          interpolated := false, clamped := false } := by decide +kernel

theorem test_registration_of_the_clamped_frame :
    registerFrame profile29 false (some 1039253) 5048610 5093610 false
      = { ratio := 1025200, span := 48056, origin := 5048290, reference := 5048610, closing := 5093610
          interpolated := false, clamped := true } := by decide +kernel

theorem test_source_lines_of_the_worked_case :
    let r := registerFrame profile29 false (some 1040000) 5000000 5048610 false
    sourcePosition profile29 r 1536 = 5024038 ∧ lineOf 5024038 = 314002 ∧ fractionOf 5024038 = 6
      ∧ bandFirst profile29 r = 315544 ∧ lastNeeded profile29 r = 315551 := by decide +kernel

theorem test_output_sample : mixSample 6 30000#16 30400#16 = 30150#16 := by decide +kernel

theorem test_temporal_mean : meanSample 21000#16 21303#16 = 21152#16 := by decide +kernel

theorem test_spatial_samples :
    spatialSample 3 1 1000#16 2000#16 = 1250#16 ∧ spatialSample 3 3 1000#16 2000#16 = 1750#16
      ∧ spatialSample 2 1 12000#16 12900#16 = 12300#16 ∧ spatialSample 2 2 12000#16 12900#16 = 12600#16 := by decide +kernel

/-- A curve whose entries 156 and 157 are 38,000 and 38,400. -/
def curve63 : List CurveEntry :=
  (List.range 257).map fun i => { value := if i = 156 then 38000#16 else if i = 157 then 38400#16 else 0#16, written := true }

theorem test_curve_arithmetic :
    curveSample curve63 40000#16 = 38100#16 ∧ curveSample curve63 39936#16 = 38000#16 := by decide +kernel

theorem test_occupancy_hysteresis :
    let level := fun (x : Level) (held : Nat) => occupancyAfter { level := x, slow := 10, hold := 14 } held
    [10, 11, 13, 14, 13, 12, 10, 9, 8, 10].foldl (fun (xs : List Level) n => xs ++ [level (xs.getLastD .normal) n]) []
      = [.slow, .slow, .slow, .hold, .hold, .slow, .slow, .slow, .normal, .slow] := by decide +kernel

/-- The three records of section 4.8 in order of completion, on lines moved to 0 to 5 and columns brought closer together. -/
def picture48 : List (List Pixel) :=
  let line := fun (xs : List Nat) => (List.range 20).map fun x => ({ r := 0, g := 0, b := 0, ir := if xs.contains x then 0 else 30000 } : Pixel)
  [line [0, 1, 4, 5], line [1, 2, 3, 4], line [2, 3, 10], line [10, 14, 15, 16], line [10, 11], line []]

theorem test_records_in_order_of_completion :
    (completedRecords 20000 picture48).map (fun b => [b.x0, b.x1, b.y0, b.y1, b.area])
      = [[0, 5, 0, 2, 10], [14, 16, 3, 3, 3], [10, 11, 2, 4, 4]] := by decide +kernel

/-- The rules of section 4.8. -/
def rules48 : List ClassifierRule :=
  let base : ClassifierRule := { ruleOn with valid := true, areaMin := 1, widthMin := 1, heightMin := 1, heightMax := 3200 }
  [{ base with areaMax := 10000, widthMax := 8, persistence := .yes, band := .yes, action := .spatial },
   { base with areaMax := 100000, widthMax := 64, persistence := .yes, action := .keep },
   { base with valid := false, areaMax := 16777215, widthMax := 4096 },
   { base with areaMax := 50000, widthMax := 256, heightMax := 256, persistence := .no }]

theorem test_classification_of_the_worked_case :
    let p : Profile := { profileOn with bands := [some { x0 := 1000, x1 := 1003 }, none, none, none], defaultAction := .unrepairable }
    let old := fun x0 x1 y0 y1 => ({ x0 := x0, x1 := x1, y0 := y0, y1 := y1, area := 1, persistence := false, bandHit := false
                                     rule := none, action := .keep, outcome := none } : DefectRecord)
    let of := fun x0 x1 y0 y1 area => classify rules48 p [old 1530 1560 100 110, old 990 1010 0 1535]
      { x0 := x0, x1 := x1, y0 := y0, y1 := y1, area := area, leftmost := x0 }
    ((of 200 212 100 102 19).rule, (of 200 212 100 102 19).action) = (some 3, .temporal)
      ∧ ((of 1500 1540 103 103 41).rule, (of 1500 1540 103 103 41).action) = (some 1, .keep)
      ∧ ((of 1001 1002 102 104 4).rule, (of 1001 1002 102 104 4).bandHit) = (some 0, true) := by decide +kernel

/-- The housing table of section 9.6. -/
def housing96 : HousingTable :=
  { e1 := { ratioBelow := some 1040000, permille := some 20, lostEpisodes := none, baseShifts := none }
    e2 := { ratioBelow := none, permille := some 100, lostEpisodes := some 3, baseShifts := none }
    e3 := { ratioBelow := some 1000000, permille := none, lostEpisodes := some 10, baseShifts := some 6 }
    m0 := 60, m1 := 24, m2 := 12, m3 := 3 }

/-- The record of section 9.6 before finalisation. -/
def record96 : ConditionRecord :=
  { recordCleared with numbered := 1200, extracted := 1194, partialFrames := 43, lostEpisodes := 2, baseShifts := 4
                       ratioMin := some 1021500, ratioSum := 1234999999 }

theorem test_housing_of_the_worked_reel :
    let r := finalRecord housing96 false record96
    (r.ratioMean, r.permille, r.housing, r.months, r.noFrames) = (some 1034338, 35, some 1, some 24, false)
      ∧ (finalRecord housing96 false { record96 with lostEpisodes := 3 }).months = some 12
      ∧ (finalRecord housing96 true { recordCleared with numbered := 5, lostEpisodes := 1 }).months = some 60
      ∧ (finalRecord housing96 false recordCleared).housing = some 3 := by decide +kernel

theorem test_side_sensing :
    sideAfter .even 30000 100 30101 = .odd ∧ sideAfter .even 30000 100 30100 = .even
      ∧ sideAfter .odd 30000 100 29899 = .even ∧ sideAfter .odd 50 100 0 = .odd := by decide +kernel

/-! ### One step of a command, on small states -/

/-- The last reply's reason and data. -/
def lastReply (s : State) : Option (Option Reason × List Byte) := s.archive.replies.getLast?.map fun r => (r.reason, r.data)

theorem test_begin_reel_without_profile :
    lastReply (after (.beginReel (cmd (List.replicate 9 0#8))) linked) = some (some .profileInvalid, []) := by decide +kernel

theorem test_load_profile_of_zeros : lastReply (after (.loadProfile (cmd (List.replicate 47 0#8))) linked)
    = some (some .badField, []) := by decide +kernel

theorem test_write_bank_reply : lastReply (after (.writeBank (cmd [7#8, 2#8, 0#8, 1#8, 1#8, 5#8, 0#8])) linked)
    = some (none, [0#8]) := by decide +kernel

theorem test_commit_of_an_incomplete_bank :
    lastReply (after (.commitCues (cmd [])) { linked with cues := both { cuesOn with shadow := { cueListOn with count := 1 } } })
      = some (some .cuesInvalid, [0#8, 1#8]) := by decide +kernel

theorem test_shelf_start_unconfigured :
    lastReply (after (.shelfStart (cmd [])) linked) = some (some .notConfigured, []) := by decide +kernel

theorem test_write_shelf_then_start :
    let s := after (.shelfConfig (cmd [1#8, 0#8, 0xFF#8, 0#8, 3#8])) linked
    let s := after (.writeShelf (cmd ([0#8, 1#8] ++ [9#8, 0#8, 100#8, 0#8, 0#8, 0#8, 0#8, 0#8, 4#8, 0#8, 1#8]))) s
    let u := (after (.shelfStart (cmd [])) s).shelf.a
    ((entryAt u 0).status, (entryAt u 0).remaining, u.state) = (.opened, 4, .running) := by decide +kernel

theorem test_unknown_command :
    lastReply (after (.unknownCommand 0x99#8 (cmd [])) linked) = some (some .unknownCommand, []) := by decide +kernel

theorem test_bad_lane_byte :
    lastReply (after (.readLane { lane := 2#8, tag := 0#8, payload := [] }) linked) = some (some .badField, []) := by
  decide +kernel

theorem test_query_part_data :
    (lastReply (after (.queryPart (cmd [])) linked)).map (fun r => r.2.take 9)
      = some [3#8, 2#8, 24#8, 16#8, 0x00#8, 0x20#8, 8#8, 0x01#8, 0x01#8] := by decide +kernel

/-- Two reports in a row of one kind set the tension fault (R123). -/
theorem test_two_tension_reports :
    let s := after (.transportCell .a .slack none) linked
    let t := after (.transportCell .a .tight none) s
    (s.alarms.a.tensionFault, t.alarms.a.tensionFault, t.alarms.a.records.transport.raiseCount) = (false, true, 1) := by
  decide +kernel

/-- The splice list holds 16 positions, the oldest leaving first (R36). -/
theorem test_seventeenth_splice :
    (appendSplice 17#36 ((List.range 16).map (BitVec.ofNat 36))).map BitVec.toNat = (List.range' 1 15) ++ [17] := by
  decide +kernel

/-- Two black lines are filled between lines 5 and 8 (R25). -/
theorem test_filled_lines : (fillLines 1 (some 5#32) 8#32).map StripLine.number = [6#32, 7#32] := by decide +kernel

/-- The STOP_INDEX entry stops shelving at the entry after it, 0 after 31 (R152). -/
theorem test_next_entry_at_the_stop_index :
    let u := nextEntry 31 { shelfOn with state := .running, current := 31, stopIndex := some 31 }
    (u.state, u.reason, u.current) = (.stopped, .stopIndex, 0) := by decide +kernel

/-- An end of list without auto restart or a queued trigger stops at the entry itself (R152). -/
theorem test_next_entry_at_the_end_of_the_list :
    let u := nextEntry 31 { shelfOn with state := .running, current := 31 }
    (u.state, u.reason, u.current) = (.stopped, .endOfList, 31) := by decide +kernel

/-- A withdrawn place is taken before the next place (R145). -/
theorem test_free_place_first :
    offerPlace { shelfEntryOn with freePlaces := [1, 3], nextPlace := 5 } = 1
      ∧ (takePlace { shelfEntryOn with freePlaces := [1, 3], nextPlace := 5 }).freePlaces = [3] := by decide +kernel

/-- The blocks of places wrap at 2^48 (R137). -/
theorem test_place_block : placeBlock { shelfEntryOn with startBlock := 2 ^ 48 - 3 } 2 2 = 1 := by decide +kernel

/-- The command at the front runs first (log entry 1). -/
theorem test_queue_order :
    (match step { linked with pending := [.paceCellSent .a, .archiveLinkReset] } with
      | .next t => (t.pending, t.archive.up)
      | _ => ([], false)) = ([.archiveLinkReset], true) := by decide +kernel

/-- Section 7.7: a boundary that releases TRANSPORT (PACE_HOLD) and STALL (PACE_SLOW) while the occupancy level is SLOW gives one
PACE cell, SLOW with the occupancy level alone as its cause. -/
theorem test_boundary_releases_two_alarms :
    let r := fun x : Responses => raisedRecord { alarmRecord .a .stall linked with responses := x }
    let s := { running .running with
      occupancy := both { level := .slow, slow := 10, hold := 14 }
      alarms := both { alarmsOn with records := { alarmsOn.records with
        transport := r { noResponses with paceHold := true }, stall := r { noResponses with paceSlow := true } } } }
    ((evaluate .a s).intake.get .a).pacePlace = some { level := .slow, occupancy := .slow, sources := 0, idle := false } := by
  decide +kernel

/-! ### Witnesses: states and operands that meet the hypotheses of the obligations -/

/-- A slot of lane A's frame 7. -/
def slotOf (x : Stage) : Slot :=
  { lane := .a, serial := 0, frame := 7, stage := x
    reg := { ratio := 1048576, span := 0, origin := 0, reference := 0, closing := 0, interpolated := false, clamped := false }
    incomplete := false, spliced := false, density := .sampled 9, defects := some { records := [], overflow := 0 }
    outcome := none, stamp := .neutral, graded := none, ungraded := true, offer := none, entry := none
    ack := .notOffered, reoffer := false, picture := [] }

/-- A state that holds one slot. -/
def holding (x : Slot) (s : State) : State := { s with slots := some x :: List.replicate 23 none }

/-- An offer of frame 7 at entry 0. -/
def offer7 : Offer := { number := 5, frame := 7, entry := 0, place := 0, block := 0, timer := some 4 }

/-- A shelf list whose entry 0 is OPEN with one place left. -/
def openShelf : ShelfUnit :=
  { shelfOn with
    entries := { shelfEntryOn with status := .opened, capacity := 1, remaining := 1, nextPlace := 1 } :: shelfOn.entries.tail
    state := .running, outstanding := [offer7], pauseLink := false, ackCode := 3, blocksPerFrame := 1 }

/-- The same, the entry FAILED. -/
def failedShelf : ShelfUnit :=
  { openShelf with entries := { shelfEntryOn with status := .failed, capacity := 1, remaining := 1 } :: shelfOn.entries.tail }

theorem witness_ArchiveLinkReset :
    linked.archive.up = true ∧ (entryAt openShelf openShelf.current).status = .opened
      ∧ (withShelf openShelf linked).archive.up = true := by decide +kernel

theorem witness_ArchiveLinkUp :
    let s := withShelf { shelfOn with state := .paused } State.reset
    s.part.resetLow = false ∧ s.part.linksBarred = false ∧ s.archive.up = false ∧ (s.shelf.get .a).state = .paused
      ∧ (State.reset.shelf.get .a).state = .stopped := by decide +kernel

theorem witness_IntakeLinks :
    (linked.intake.get .a).up = true ∧ State.reset.part.resetLow = false ∧ State.reset.part.linksBarred = false
      ∧ (State.reset.intake.get .a).up = false := by decide +kernel

theorem witness_CellCheckDrop_length :
    (List.replicate 256 1#8).length = 256 ∧ linkUp .archive linked = true ∧ linkUp (.intake .b) linked = true := by
  decide +kernel

set_option maxRecDepth 100000 in
theorem witness_CellCheckDrop_check : checkHolds (List.replicate 256 1#8) = false := by decide +kernel

set_option maxRecDepth 100000 in
theorem witness_CellCheckDrop_kind :
    let x := cellWire { kind := kindPace, lane := 0#8, tag := 0#8, word := 0, payload := [] }
    x.length = 256 ∧ checkHolds x = true ∧ kindInbound (.intake .a) (byteAt x 0) = false := by decide +kernel

set_option maxRecDepth 100000 in
theorem witness_CellCheckDrop_line :
    let x := cellWire { kind := kindLine, lane := 0#8, tag := 0#8, word := 2 ^ 32, payload := [] }
    checkHolds x = true ∧ kindInbound (.intake .a) (byteAt x 0) = true ∧ payloadLength x ≠ 8 * leField x 12 1 := by
  decide +kernel

set_option maxRecDepth 100000 in
theorem witness_CellCheckDrop_transport :
    let x := cellWire { kind := kindTransport, lane := 0#8, tag := 0#8, word := 3 * 2 ^ 48, payload := [] }
    checkHolds x = true ∧ byteAt x 0 = kindTransport ∧ 2 < leField x 14 1 := by decide +kernel

set_option maxRecDepth 100000 in
theorem witness_CellCheckDrop_payload :
    let x := cellWire { kind := kindPerf, lane := 0#8, tag := 0#8, word := 0, payload := List.replicate 241 0#8 }
    x.length = 256 ∧ checkHolds x = true ∧ 240 < payloadLength x := by decide +kernel

theorem witness_IntakeLinks_paceCell :
    let x : PaceCell := { level := .hold, occupancy := .normal, sources := 0, idle := true }
    let s := { linked with intake := both { linked.intake.a with pacePlace := some x } }
    (s.intake.get .b).up = true ∧ (s.intake.get .b).pacePlace = some x := by decide +kernel

/-- A reply, a notice and a CONDITION cell. -/
def reply0 : Reply := { code := 0x44#8, lane := 0#8, tag := 0#8, reason := none, data := [] }
def notice0 : NoticeCell := { lane := .a, notice := .cuesSwapped 0 none }
def condition0 : ConditionCell := { lane := .a, record := recordCleared, previousLost := false, begun := false }

theorem witness_ArbiterOrder :
    linked.archive.up = true ∧ linked.archive.sending = none ∧ linked.archive.replies = [] ∧ linked.archive.notices = []
      ∧ { linked.archive with replies := [reply0] }.replies = reply0 :: []
      ∧ { linked.archive with notices := [notice0] }.notices = notice0 :: []
      ∧ { linked with condQueue := [condition0] }.condQueue = condition0 :: [] := by decide +kernel

/-- A begun cell: there is a next state, and something is being sent. -/
theorem witness_ArbiterOrder_begun :
    (match exec (.archiveCellSent .begun) { linked with condQueue := [condition0] } with
      | .next t => t.archive.sending.isSome
      | _ => false) = true ∧ linked.archive.sending = none := by decide +kernel

/-- Lane A with an item in transmission, frame 7 in a slot; the profile's frames have 137 FRAME_DATA cells. -/
def transmitting7 (x : Item) : State :=
  { holding (slotOf .offered) (withShelf { openShelf with sending := some x, outstanding := [] } linked) with
    profile := both { profileOn with width := 64, height := 64 } }

theorem witness_FrameCellsSent :
    (transmitting7 (.gap 3)).archive.up = true ∧ (transmitting7 (.gap 3)).archive.lastFrameLane = none
      ∧ ((transmitting7 (.gap 3)).shelf.get .a).sending = some (.gap 3)
      ∧ frameSlot .a 7 (transmitting7 (.frame offer7 0)) = some (slotOf .offered)
      ∧ frameDataCells ((transmitting7 (.frame offer7 0)).profile.get .a) = 137
      ∧ frameSlot .a 7 (transmitting7 (.frame offer7 136)) = some (slotOf .offered)
      ∧ frameSlot .a 7 (transmitting7 (.frame offer7 137)) = some (slotOf .offered) := by decide +kernel

theorem witness_FrameCellsSent_withdrawn :
    let x : Cell := { kind := kindFrameGap, lane := 0#8, tag := 0#8, word := 0, payload := [] }
    let s := { linked with archive := { linked.archive with sending := some { source := .withdrawn .a, cell := x } } }
    s.archive.up = true ∧ s.archive.sending = some { source := .withdrawn .a, cell := x } := by decide +kernel

theorem witness_OneReplyPerCommand :
    cellOf (.readLane (cmd [])) = some (0x40#8, cmd []) ∧ commandCredit linked = true
      ∧ commandCredit { linked with archive := { linked.archive with replies := List.replicate 7 reply0 } } = true
      ∧ 8 ≤ (List.replicate 8 reply0).length ∧ codeDefined 0x46#8 = false := by decide +kernel

theorem witness_OneReplyPerCommand_field :
    let c : CommandCell := { lane := 2#8, tag := 0#8, payload := [] }
    actsOnLane 0x40#8 = true ∧ cellOf (.readLane c) = some (0x40#8, c)
      ∧ ((2#8 : Byte) ≠ 0#8 ∧ (2#8 : Byte) ≠ 1#8) ∧ lengthFirst 0x40#8 = some 0 ∧ (cmd [9#8]).payload.length ≠ 0
      ∧ ((cmd [9#8]).lane = 0#8 ∨ (cmd [9#8]).lane = 1#8) ∧ actsOnLane 0x44#8 = false ∧ lengthFirst 0x44#8 = some 0 := by
  decide +kernel

theorem witness_StoreAck :
    let s := withShelf openShelf (running .running)
    s.archive.up = true ∧ offerOf .a 5 s = some offer7 ∧ offer7.entry < (s.shelf.get .a).entries.length
      ∧ (entryAt (s.shelf.get .a) offer7.entry).status = .opened ∧ (entryAt (s.shelf.get .a) offer7.entry).remaining = 1
      ∧ (s.cond.get .a).condition = .opened := by decide +kernel

theorem witness_OfferFailure :
    let s := withShelf openShelf (running .running)
    let f := withShelf failedShelf (running .running)
    s.archive.up = true ∧ offerOf .b 5 s = some offer7 ∧ offer7.entry = (s.shelf.get .b).current
      ∧ offer7.timer.isSome = true ∧ (entryAt (s.shelf.get .b) offer7.entry).status = .opened
      ∧ offerOf .b 5 f = some offer7 ∧ (entryAt (f.shelf.get .b) offer7.entry).status = .failed := by decide +kernel

theorem witness_StoreAck_stale :
    linked.archive.up = true ∧ offerOf .a 5 linked = none ∧ ((2#8 : Byte) ≠ 0#8 ∧ (2#8 : Byte) ≠ 1#8)
      ∧ ((0#8 : Byte) ≠ 1#8 ∧ (0#8 : Byte) ≠ 2#8) := by decide +kernel

/-- A BEGIN_REEL payload: reel 1, a first frame, a phase. -/
def beginPayload (first phase : Nat) : List Byte := leBytes 4 1 ++ leBytes 4 first ++ [BitVec.ofNat 8 phase]

theorem witness_BeginReel :
    let s := { linked with lane := both (inState .idle), profile := both { profileOn with k := 6 } }
    Taken (cmd []) .a linked ∧ (cmd []).payload.length ≠ 9 ∧ Taken (cmd (beginPayload 16777215 5)) .a s
      ∧ (cmd (beginPayload 16777215 5)).payload.length = 9 ∧ (s.lane.get .a).state = .idle
      ∧ (s.lane.get .a).profileValid = true ∧ leField (beginPayload 16777215 5) 4 4 = 16777215
      ∧ leField (beginPayload 16777215 5) 8 1 < (s.profile.get .a).k
      ∧ 16777215 < leField (beginPayload 16777216 5) 4 4 ∧ (s.profile.get .a).k ≤ leField (beginPayload 0 6) 8 1
      ∧ (linked.lane.get .a).profileValid = false ∧ ((running .lost).lane.get .a).state ≠ .idle := by decide +kernel

theorem witness_EndReel :
    (cmd []).payload.length = 0 ∧ Taken (cmd []) .a linked ∧ (linked.lane.get .a).state = .idle
      ∧ (∀ x ∈ [PassState.acquiring, .running, .lost, .draining],
          Taken (cmd []) .a (running x) ∧ ((running x).lane.get .a).state = x) := by decide +kernel

theorem witness_AbortReel :
    Taken (cmd []) .a (running .running) ∧ ((running .running).lane.get .a).state ≠ .idle
      ∧ ((running .running).cond.get .a).condition = .opened ∧ (cmd []).payload.length = 0
      ∧ (linked.lane.get .a).state = .idle ∧ failedAwaiting openShelf = false
      ∧ ((withShelf { openShelf with state := .pausing } (running .running)).shelf.get .a).state = .pausing
      ∧ ((withShelf { openShelf with state := .stopping } (running .running)).shelf.get .a).state = .stopping
      ∧ ((withShelf openShelf (running .running)).shelf.get .a).state = .running := by decide +kernel

theorem witness_ResetLane : Taken (cmd []) .a (running .draining) ∧ (cmd []).payload.length = 0
    ∧ 2 ≤ ((running .draining).occupancy.get .a).slow ∧ 2 ≤ ((running .draining).occupancy.get .a).hold := by decide +kernel

/-- A profile in its ranges. -/
def profileGood : Profile :=
  { profileOn with k := 6, pitch := 1600, width := 64, height := 3200, damageThreshold := 1, spatialMax := 256
                   baseLines := 32, baseColumns := { x0 := 63, x1 := 63 }, silenceCode := 8
                   bands := [none, some { x0 := 0, x1 := 63 }, none, none] }

theorem witness_ProfileAndRules :
    Taken (cmd (profileBytes profileGood)) .a linked ∧ (linked.lane.get .a).state = .idle
      ∧ (cmd (profileBytes profileGood)).payload.length = 47
      ∧ readProfile (profileBytes profileGood) = some profileGood
      ∧ readProfile (List.replicate 47 0#8) = none ∧ (List.replicate 47 0#8).length = 47
      ∧ ((running .running).lane.get .a).state ≠ .idle := by decide +kernel

theorem tableLaw_of_tables (s : State) (h : s.banks = List.replicate 8 bankOn)
    (hr : ∀ l, (s.rules.get l).length = 16) (hc : ∀ l, s.cues.get l = cuesOn) (hs : ∀ l, (s.shelf.get l).entries.length = 32) :
    TableLaw s := by
  refine ⟨by rw [h]; rfl, ?_, fun l => ⟨hr l, ?_, ?_, hs l⟩⟩
  · intro b hb channel
    rw [h] at hb
    have hb := List.eq_of_mem_replicate hb
    subst hb
    unfold curveOf
    split <;> exact List.length_replicate
  · rw [hc]; rfl
  · rw [hc]; rfl

theorem tableLaw_linked : TableLaw linked :=
  tableLaw_of_tables linked rfl (fun l => by cases l <;> rfl) (fun l => by cases l <;> rfl) (fun l => by cases l <;> rfl)

/-- A rule in its ranges, at their upper ends. -/
def ruleGood : ClassifierRule :=
  { ruleOn with valid := true, areaMin := 1, areaMax := 16777215, widthMin := 1, widthMax := 4096, heightMin := 1
                heightMax := 3200, persistence := .no, band := .yes, action := .keep }

theorem witness_ProfileAndRules_rules :
    let good := [15#8, 1#8] ++ ruleBytes ruleGood
    Taken (cmd good) .a linked ∧ (linked.lane.get .a).state = .idle ∧ leField good 0 1 = 15 ∧ leField good 1 1 = 1
      ∧ good.length = 2 + 20 * 1 ∧ 15 + 1 ≤ 16 ∧ (∀ i < 1, readRule (good.drop (2 + 20 * i)) ≠ none)
      ∧ (∀ i < 1, readRule (([0#8, 1#8] ++ List.replicate 20 0#8).drop (2 + 20 * i)) = none)
      ∧ leField [0#8, 9#8] 1 1 = 9 ∧ leField ([16#8, 1#8] ++ ruleBytes ruleGood) 0 1 = 16
      ∧ ((running .acquiring).lane.get .a).state ≠ .idle := by decide +kernel

theorem witness_WriteBank :
    let last := [7#8, 2#8, 0#8, 1#8, 1#8, 1#8, 0#8]
    commandCredit linked = true ∧ leField last 0 1 = 7 ∧ leField last 1 1 = 2 ∧ leField last 2 2 = 256
      ∧ leField last 4 1 = 1 ∧ last.length = 5 + 2 * 1 ∧ 256 + 1 ≤ 257 ∧ bankLive 7 linked = false
      ∧ bankLive 7 { linked with grading := { linked.grading with
          stamps := [{ lane := .a, serial := 0, frame := 0, banks := some (0, 7) }] } } = true
      ∧ leField [8#8, 0#8, 0#8, 0#8, 1#8, 0#8, 0#8] 0 1 = 8 ∧ leField [0#8, 0#8, 0#8, 0#8, 65#8] 4 1 = 65 := by
  decide +kernel

/-- A cue entry at the upper ends of its ranges. -/
def cueGood : CueEntry :=
  { start := 16777215, even := 7, odd := 7, mode := .sensed, threshold := 65535, hysteresis := 4095, interval := 16 }

theorem witness_WriteCues :
    let good := [63#8, 1#8, 64#8] ++ cueBytes cueGood
    Taken (cmd good) .a linked ∧ (linked.cues.get .a).armed = false ∧ leField good 0 1 = 63 ∧ leField good 1 1 = 1
      ∧ leField good 2 1 = 64 ∧ good.length = 3 + 12 * 1 ∧ (∀ i < 1, readCue (good.drop (3 + 12 * i)) ≠ none)
      ∧ (∀ i < 1, readCue (List.replicate 12 0#8 |>.drop (12 * i)) = none)
      ∧ leField [64#8, 0#8, 64#8] 0 1 = 64 ∧ leField [64#8, 0#8, 64#8] 1 1 = 0 ∧ [64#8, 0#8, 64#8].length = 3 + 12 * 0
      ∧ 64 + 0 ≤ 64 ∧ leField [0#8, 17#8, 0#8] 1 1 = 17 ∧ leField [64#8, 1#8, 0#8] 0 1 = 64 ∧ leField [0#8, 0#8, 65#8] 2 1 = 65 := by
  decide +kernel

/-- Lane A's shadow list, its entries in use. -/
def shadowed (es : List CueEntry) (armed : Bool) : State :=
  { linked with cues := both { cuesOn with
      shadow := { entries := es ++ List.replicate (64 - es.length) cueEntryOn, count := es.length }, armed := armed } }

/-- Two entries whose start frames do not ascend, the banks complete. -/
def wholeBanks (s : State) : State :=
  let curve := List.replicate 257 ({ value := 0, written := true } : CurveEntry)
  { s with banks := List.replicate 8 { r := curve, g := curve, b := curve } }

theorem witness_CommitAndCancelCues :
    Taken (cmd []) .a (shadowed [] true) ∧ ((shadowed [] true).cues.get .a).armed = true
      ∧ cuesInUse ((shadowed [] false).cues.get .a).shadow = [] ∧ ((shadowed [] false).lane.get .a).state = .idle
      ∧ (shadowed [] false).cues.a.armed = false
      ∧ cuesInUse ((shadowed [cueGood, cueGood] false).cues.get .a).shadow = [cueGood, cueGood]
      ∧ bankComplete (bankAt (wholeBanks linked) 7) = true ∧ ¬cueGood.start < cueGood.start
      ∧ bankComplete (bankAt linked 7) = false := by decide +kernel

theorem witness_CommitCues_valid (i : Nat) : cueAscends [] i ∧ cueComplete linked [] i :=
  ⟨fun _ _ _ h => by simp at h, fun _ h => by simp at h⟩

theorem witness_CommitCues_order : ¬cueAscends [cueGood, cueGood] 1 :=
  fun h => absurd (h cueGood cueGood (by decide) rfl rfl) (by decide)

theorem witness_CommitCues_incomplete : cueAscends [cueGood] 0 ∧ ¬cueComplete linked [cueGood] 0 :=
  ⟨fun _ _ h => absurd h (by decide), fun h => absurd (h cueGood rfl).1 (by decide +kernel)⟩

theorem witness_HousingAndNotices :
    commandCredit linked = true ∧ (housingBytes housing96).length = 46
      ∧ readHousing (housingBytes housing96) = some housing96 ∧ readHousing (List.replicate 46 0#8) = none := by
  decide +kernel

theorem witness_HousingAndNotices_notices :
    Taken (cmd [15#8]) .a linked ∧ (cmd [15#8]).payload.length = 1 ∧ leField [15#8] 0 1 = 15 ∧ leField [16#8] 0 1 = 16 := by
  decide +kernel

theorem witness_SetPaceMarks :
    Taken (cmd [2#8, 2#8]) .a linked ∧ (cmd [2#8, 2#8]).payload.length = 2 ∧ leField [2#8, 2#8] 0 1 = 2
      ∧ leField [2#8, 2#8] 1 1 = 2 ∧ leField [16#8, 16#8] 0 1 = 16 ∧ leField [1#8, 2#8] 0 1 = 1
      ∧ heldCount .a (holding (slotOf .detecting) linked) = 1 ∧ heldCount .a linked = 0 := by decide +kernel

/-- Levels NORMAL, SLOW and HOLD with a level that changes and a link that is UP; marks 2 and 2, nothing held. -/
theorem witness_SetPaceMarks_levels :
    (∀ x ∈ [Level.normal, .slow, .hold],
      let s := { linked with occupancy := both { level := x, slow := 10, hold := 14 } }
      Taken (cmd [2#8, 2#8]) .a s ∧ (s.intake.get .a).up = true ∧ (s.occupancy.get .a).level = x ∧ heldCount .a s = 0)
    ∧ LevelAfter { level := .slow, slow := 2, hold := 2 } 0 .normal ∧ LevelAfter { level := .hold, slow := 2, hold := 2 } 0 .normal
    ∧ LevelAfter { level := .hold, slow := 10, hold := 14 } 13 .hold ∧ LevelAfter { level := .hold, slow := 10, hold := 14 } 12 .slow
    ∧ LevelAfter { level := .slow, slow := 10, hold := 14 } 9 .slow ∧ LevelAfter { level := .normal, slow := 10, hold := 14 } 14 .hold := by
  refine ⟨by decide +kernel, ?_, ?_, ?_, ?_, ?_, ?_⟩ <;> (unfold LevelAfter; decide)

/-- With a PAUSED or RUNNING pace and the pace level kept in agreement. -/
theorem witness_SetPaceMarks_pace : PaceLaw .a linked := by unfold PaceLaw; decide +kernel

theorem witness_SetAlarm :
    Taken (cmd [4#8, 2#8, 31#8]) .a linked ∧ (cmd [4#8, 2#8, 31#8]).payload.length = 3 ∧ sourceField 4 = some .baseShift
      ∧ modeField 2 = some .ackRelease ∧ responsesField 31 = some ⟨true, true, true, true, true⟩ ∧ sourceField 5 = none
      ∧ modeField 3 = none ∧ responsesField 32 = none ∧ (alarmRecord .a .baseShift linked).inForce = false
      ∧ (alarmRecord .a .baseShift (updRecord .a .baseShift raisedRecord linked)).inForce = true := by decide +kernel

theorem witness_AckAlarm :
    Taken (cmd [255#8]) .a linked ∧ (cmd [255#8]).payload.length = 1 ∧ ackSources 255 = some allSources
      ∧ ackSources 4 = some [.baseShift] ∧ ackSources 5 = none ∧ ((running .running).lane.get .a).state = .running
      ∧ (linked.lane.get .a).state ≠ .running := by decide +kernel

theorem witness_WriteShelf :
    let e := { shelfEntryOn with volume := 9, capacity := 65535, notify := true, eol := true }
    let good := [31#8, 1#8] ++ shelfEntryBytes e
    Taken (cmd good) .a linked ∧ leField good 0 1 = 31 ∧ leField good 1 1 = 1 ∧ good.length = 2 + 11 * 1
      ∧ (∀ i < 1, readShelfEntry (good.drop (2 + 11 * i)) ≠ none) ∧ (∀ i < 1, entryInUse (linked.shelf.get .a) (31 + i) = false)
      ∧ entryInUse openShelf 0 = true ∧ entryInUse failedShelf 0 = true
      ∧ readShelfEntry (List.replicate 11 0#8) = none ∧ leField [0#8, 9#8] 1 1 = 9 := by decide +kernel

theorem witness_ShelfConfig :
    let good := [1#8, 0#8, 31#8, 1#8, 8#8]
    Taken (cmd good) .a linked ∧ (linked.shelf.get .a).state = .stopped ∧ good.length = 5 ∧ leField good 0 2 = 1
      ∧ leField good 2 1 = 31 ∧ leField good 3 1 = 1 ∧ leField good 4 1 = 8 ∧ openShelf.state ≠ .stopped
      ∧ leField [0#8, 0#8, 32#8, 2#8, 9#8] 2 1 = 32 := by decide +kernel

theorem witness_ShelfStart :
    Taken (cmd []) .a linked ∧ (linked.shelf.get .a).state = .stopped ∧ (linked.shelf.get .a).blocksPerFrame = 0
      ∧ (let v := { shelfOn with blocksPerFrame := 1, entries := { shelfEntryOn with status := .ready } :: shelfOn.entries.tail }
         v.state = .stopped ∧ v.blocksPerFrame ≠ 0 ∧ (entryAt v v.current).status = .ready)
      ∧ (entryAt shelfOn shelfOn.current).status ≠ .ready ∧ openShelf.state = .running
      ∧ { openShelf with state := .stopping }.state = .stopping := by decide +kernel

theorem witness_ShelfPauseResumeStop : Taken (cmd []) .a linked ∧ PauseLaw openShelf
    ∧ PauseLaw { openShelf with state := .paused, pauseManual := true }
    ∧ PauseLaw { openShelf with state := .paused, pauseManual := true, pauseLink := true } ∧ PauseLaw shelfOn := by
  refine ⟨by decide +kernel, ?_, ?_, ?_, ?_⟩ <;> exact ⟨by decide +kernel, by decide +kernel, by decide +kernel, by decide +kernel⟩

theorem witness_ShelfPauseResumeStop_stop :
    Taken (cmd []) .a linked ∧ (linked.shelf.get .a).state = .stopped ∧ openShelf.state = .running ∧ laneOffers openShelf ≠ []
      ∧ laneOffers { openShelf with outstanding := [] } = [] := by decide +kernel

theorem witness_Reads : Taken (cmd []) .a linked ∧ (cmd []).payload.length = 0 := by decide +kernel

theorem witness_Reads_others :
    Taken (cmd [28#8, 4#8]) .a linked ∧ (cmd [28#8, 4#8]).payload.length = 2 ∧ leField [28#8, 4#8] 0 1 = 28
      ∧ leField [28#8, 4#8] 1 1 = 4 ∧ 28 + 4 ≤ 32 ∧ leField [29#8, 4#8] 0 1 = 29 ∧ Taken (cmd []) .a linked := by decide +kernel

/-- Lane A's port with a line in assembly and a last line. -/
def assembling (a : Option Assembly) (p : Option LineNumber) (s : State) : State :=
  { s with intake := both { linked.intake.a with assembly := a, lastLine := p } }

theorem witness_LineCellAssembles :
    let a : Assembly := { number := 6, pixels := [] }
    ((assembling (some a) (some 5) linked).intake.get .a).up = true
      ∧ ((assembling (some a) (some 5) linked).intake.get .a).resumeOwed = false
      ∧ (6#32 : LineNumber) = a.number ∧ ahead 6#32 5#32 = true ∧ ahead 5#32 6#32 = false ∧ (5#32 : LineNumber) ≠ a.number
      ∧ ahead 2147483647#32 0#32 = true ∧ ahead 2147483648#32 0#32 = false ∧ ahead 0#32 4294967295#32 = true := by
  decide +kernel

theorem witness_LineCellCompletes :
    let a : Assembly := { number := 6, pixels := [] }
    ((assembling (some a) (some 5) (running .running)).intake.get .a).assembly = some a
      ∧ ((assembling (some a) (some 5) (running .running)).lane.get .a).state = .running
      ∧ ((assembling none (some 5) linked).intake.get .a).assembly = none ∧ ahead 7#32 a.number = true
      ∧ (linked.lane.get .a).state = .idle ∧ (linked.cond.get .a).condition ≠ .opened := by decide +kernel

/-- Registration with a last accepted edge at 1000, R_prev one, and an open frame. -/
def regAt (es : Option (List Edge)) (run : List Position) : RegUnit :=
  { regOn with lastEdge := some 1000, prevRatio := some 1048576, openFrame := es, seekRun := run, lastClosing := some 0 }

/-- A lane in a pass state with pitch 1600 and K = 1, so that E is 1600. -/
def pitched (x : PassState) (u : RegUnit) : State :=
  { withReg u (running x) with profile := both { profileOn with k := 1, pitch := 1600 } }

theorem witness_PerfCellTaken :
    let s := pitched .running (regAt (some [realEdge 1000]) [])
    (s.intake.get .a).up = true ∧ (s.lane.get .a).state = .running ∧ (s.reg.get .a).lastEdge = some 1000
      ∧ 1600 = roundHalfUp ((s.profile.get .a).pitch * (s.reg.get .a).prevRatio.getD 1048576) 1048576
      ∧ (1799 - 1000 : Position).toNat = 799 ∧ 2 * 799 < 1600 ∧ (1800 - 1000 : Position).toNat = 800 ∧ 1600 ≤ 2 * 800
      ∧ (3400 - 1000 : Position).toNat = 2400 ∧ 2 * 2400 ≤ 3 * 1600 ∧ (3401 - 1000 : Position).toNat = 2401
      ∧ 3 * 1600 < 2 * 2401 ∧ roundHalfUp 2401 1600 - 1 = 1 ∧ roundHalfUp 7199 1600 - 1 = 3
      ∧ ((pitched .lost (regAt none [5])).reg.get .a).seekRun.length < 2 ∧ regOn.lastEdge = none
      ∧ (pitched .running (regAt (some [realEdge 1, realEdge 2]) [])).reg.a.openFrame = some [realEdge 1, realEdge 2]
      ∧ ((pitched .running { regAt none [] with lockEdges := some 0 }).reg.get .a).openFrame = none
      ∧ ((pitched .running { regAt none [] with lockEdges := some 0 }).lane.get .a).phase = 0 := by
  decide +kernel

theorem witness_LossOfRegistration :
    let s := pitched .running (regAt (some [realEdge 1000]) [])
    (s.intake.get .a).up = true ∧ (s.lane.get .a).state = .running ∧ (s.reg.get .a).lastEdge = some 1000
      ∧ (8200 - 1000 : Position).toNat = 7200
      ∧ 1600 = roundHalfUp ((s.profile.get .a).pitch * (s.reg.get .a).prevRatio.getD 1048576) 1048576
      ∧ 3 * 1600 < 2 * 7200 ∧ 3 < roundHalfUp 7200 1600 - 1 ∧ (s.cond.get .a).condition = .opened
      ∧ (alarmRecord .a .registration s).present = false := by decide +kernel

theorem witness_LockAndRelock :
    let s := pitched .lost (regAt none [900, 950])
    (s.intake.get .a).up = true ∧ (s.reg.get .a).lastEdge = some 1000 ∧ (2600 - 1000 : Position).toNat = 1600
      ∧ (s.reg.get .a).seekRun = [900, 950] ∧ (s.lane.get .a).state = .lost ∧ (s.lane.get .a).nextFrame = some 7
      ∧ (s.reg.get .a).lastClosing = some 0 ∧ min 1024 (roundHalfUp (900 - 0 : Position).toNat (1 * 1600) - 1) = 0
      ∧ 7 + 0 ≤ 16777215 ∧ ((pitched .acquiring (regAt none [900, 950])).lane.get .a).state = .acquiring := by decide +kernel

/-- No frame closed in the pass: no gap; 1024 gaps; and gaps that end at the last frame number. -/
theorem witness_LockAndRelock_gaps :
    ((pitched .lost { regAt none [900, 950] with lastClosing := none }).reg.get .a).lastClosing = none
      ∧ min 1024 (roundHalfUp (2000000 - 0 : Position).toNat (1 * 1600) - 1) = 1024 ∧ 7 + 1024 ≤ 16777215
      ∧ 16777215 < 16776192 + 1024 ∧ 16776191 + 1024 ≤ 16777215 ∧ 16777216 - 16776192 = 1024
      ∧ (let s := pitched .lost { regAt none [2000000, 2001600] with lastEdge := some 2001600 }
         (s.reg.get .a).seekRun = [2000000, 2001600] ∧ (2003200 - 2001600 : Position).toNat = 1600
           ∧ (s.cond.get .a).condition = .opened ∧ (s.cond.get .a).record.numbered ≤ 16777216) := by decide +kernel

/-- R32 and R11: a synthesized edge that closes frame 16,777,215 leaves the real edge untaken, and it is not the last accepted
edge. -/
theorem test_real_edge_after_the_last_boundary :
    let s := { pitched .running (regAt (some [realEdge 1000]) []) with
      lane := both { inState .running with nextFrame := some 16777215 } }
    let t := after (.perfCell .a 4200) s
    (t.lane.a.state, t.reg.a.lastEdge, t.reg.a.openFrame) = (.draining, some 1000, none) := by decide +kernel

theorem witness_FrameBoundary :
    let s := pitched .running (regAt (some [realEdge 1000]) [])
    (s.intake.get .a).up = true ∧ (s.lane.get .a).state = .running ∧ (s.reg.get .a).lastEdge = some 1000
      ∧ (2600 - 1000 : Position).toNat = 1600 ∧ 1600 ≤ 2 * 1600 ∧ 2 * 1600 ≤ 3 * 1600
      ∧ (s.reg.get .a).openFrame = some [realEdge 1000] ∧ ([] : List Edge).length + 1 = (s.profile.get .a).k
      ∧ (s.lane.get .a).nextFrame = some 7 ∧ frameSlot .a 7 s = none := by decide +kernel

/-- The boundary of the last frame number, a commit armed, with a cue stamp. -/
theorem witness_FrameBoundary_last :
    let s := { pitched .running (regAt (some [realEdge 1000]) []) with
      lane := both { inState .running with nextFrame := some 16777215 }, cues := (shadowed [cueGood] true).cues }
    (s.lane.get .a).nextFrame = some 16777215 ∧ (s.cues.get .a).armed = true ∧ frameSlot .a 16777215 s = none
      ∧ cuesInUse (s.cues.get .a).shadow = [] ++ cueGood :: [] ∧ cueGood.start ≤ 16777215 := by decide +kernel

theorem witness_TransportReports :
    (linked.intake.get .a).up = true
      ∧ ({ linked.intake.a with silence := SilenceTimer.running 4 }.silence = .running 4)
      ∧ { linked.intake.a with resumeOwed := true }.resumeOwed = true ∧ silenceRunning linked.intake.a = false := by
  decide +kernel

theorem witness_DetectionEnd :
    let s := { holding (slotOf .detecting) (running .running) with
      defect := { linked.defect with under := some { lane := .a, frame := 7 } } }
    s.defect.under = some { lane := .a, frame := 7 } ∧ frameSlot .a 7 s = some (slotOf .detecting)
      ∧ (slotOf .detecting).stage = .detecting ∧ linked.defect.under = none := by decide +kernel

/-- A frame with three defective pixels, over a damage threshold of 2, after one OVER sample, and not over one of 3. -/
theorem witness_DetectionEnd_over :
    let p := { profileOn with irThreshold := 20000, damageThreshold := 2 }
    let dark : Pixel := { r := 0, g := 0, b := 0, ir := 1 }
    let d := defectList [] p [] [[dark, dark, dark]]
    totalArea d = 3 ∧ p.damageThreshold < totalArea d ∧ totalArea d ≤ { p with damageThreshold := 3 }.damageThreshold
      ∧ 1 ≤ { alarmsOn with overRun := 1 }.overRun ∧ alarmsOn.overRun = 0 ∧ 1 ≤ { alarmsOn with notOverRun := 2 }.notOverRun
      ∧ (alarmRecord .a .damage linked).present = false ∧ (alarmRecord .a .damage linked).raised = false := by decide +kernel

theorem witness_RepairEnd :
    let s := { holding (slotOf .repairing) (running .running) with
      repair := { linked.repair with under := some { lane := .a, frame := 7 } } }
    s.repair.under = some { lane := .a, frame := 7 } ∧ frameSlot .a 7 s = some (slotOf .repairing)
      ∧ (slotOf .repairing).defects = some { records := [], overflow := 0 } ∧ linked.repair.under = none := by decide +kernel

/-- A defect record of one pixel. -/
def record1 (x : Action) : DefectRecord :=
  { x0 := 1, x1 := 1, y0 := 0, y1 := 0, area := 1, persistence := false, bandHit := false, rule := none, action := x
    outcome := none }

/-- A frame under repair with a record of each action. -/
def repairing4 : Slot :=
  { slotOf .repairing with
    picture := [List.replicate 3 { r := 4, g := 5, b := 6, ir := 7 }]
    defects := some { records := [record1 .temporal, record1 .spatial, record1 .keep, record1 .unrepairable], overflow := 2 } }

theorem witness_RepairEnd_records :
    let s := { holding repairing4 (running .running) with
      repair := { linked.repair with under := some { lane := .a, frame := 7 } } }
    s.repair.under = some { lane := .a, frame := 7 } ∧ frameSlot .a 7 s = some repairing4
      ∧ (repairing4.defects.map fun d => d.records.length) = some 4 ∧ (s.cond.get .a).condition = .opened
      ∧ (s.repair.firstUnrepairable.get .a) = none := by decide +kernel

theorem witness_GradingEnd :
    let g : UnderGrading := { ref := { lane := .a, frame := 7 }
                              resolved := { curve := .neutral, side := .even, bypassed := false, review := false } }
    let s := { holding (slotOf .grading) (running .running) with grading := { linked.grading with under := some g } }
    s.grading.under = some g ∧ frameSlot .a 7 s = some (slotOf .grading) ∧ (slotOf .grading).stage = .grading
      ∧ linked.grading.under = none := by decide +kernel

/-- A frame of stamp SENSED whose density turns the side. -/
theorem witness_GradingEnd_sensed :
    let e := { cueGood with start := 0, threshold := 30000, hysteresis := 100, interval := 1 }
    let x := { slotOf .grading with stamp := .cue e, density := .sampled 30101 }
    let s := holding x (running .running)
    frameSlot .a 7 s = some x ∧ e.mode = .sensed ∧ (x.frame - (s.lane.get .a).firstFrame) % e.interval = 0
      ∧ e.threshold + e.hysteresis < 30101 ∧ s.grading.side.get .a = .even := by decide +kernel

/-- R118 steps 6 and 7: frame 7's stage report raises STALL with MARK_REVIEW, and frame 8, graded next, carries REVIEW. -/
theorem test_stage_report_before_next_grading :
    let g : UnderGrading := { ref := { lane := .a, frame := 7 }
                              resolved := { curve := .neutral, side := .even, bypassed := false, review := false } }
    let s := { running .draining with
      slots := [some (slotOf .grading), some { slotOf .gradingWait with frame := 8 }] ++ List.replicate 22 none
      grading := { linked.grading with under := some g }
      shelf := both { shelfOn with reason := .endOfList }
      lane := both { inState .draining with nextFrame := some 9 }
      alarms := both { alarmsOn with records := { alarmsOn.records with
        stall := { alarmsOn.records.stall with responses := { noResponses with markReview := true } } } } }
    (after .gradingEnd s).grading.under
      = some { ref := { lane := .a, frame := 8 }
               resolved := { curve := .neutral, side := .even, bypassed := false, review := true } } := by decide +kernel

/-! #### A lane with a frame offered, for the laws of passes -/

/-- Lane A in a pass with its first frame 7 offered; lane B idle. -/
def offering : State :=
  { holding { slotOf .offered with ack := .outstanding, offer := some 5, entry := some 0 } linked with
    lane := { a := { inState .running with firstFrame := 7, nextFrame := some 8, lastNumbered := some 7 }, b := laneRecordOn }
    cond := { a := { condition := .opened, record := { recordCleared with firstFrame := 7, numbered := 1 } }, b := conditionOn }
    repair := { linked.repair with cursor := { a := some 7, b := none } }
    shelf := { a := { openShelf with cursor := some 8 }, b := linked.shelf.b } }

theorem witness_PassLawKept (l : Lane) : PassLaw l offering := by
  have d : ∀ n, frameAt l n [.detecting] offering = false := frameAt_none (by cases l <;> decide +kernel)
  have a : ∀ n, frameAt l n [.awaitNeighbour] offering = false := frameAt_none (by cases l <;> decide +kernel)
  have g : ∀ n, frameAt l n [.gradingWait] offering = false := frameAt_none (by cases l <;> decide +kernel)
  cases l <;> exact
    { numbers := by decide +kernel, held := by decide +kernel, apart := by decide +kernel, pending := by decide +kernel
      idle := by decide +kernel, cursor := by decide +kernel, record := by unfold RecordLaw; decide +kernel
      waiting := by decide +kernel, acknowledged := by decide +kernel, offers := by decide +kernel
      engines := by decide +kernel, ready := ⟨by decide +kernel, by decide +kernel, fun r hr => by rcases hr with hr | hr <;> cases hr⟩
      waits := by decide +kernel
      taken := ⟨fun _ n h => absurd h.1 (by simp [d n]), fun n h => absurd h.1 (by simp [a n]), by decide +kernel
        , fun _ n h => absurd h.1 (by simp [g n])⟩
      released := by decide +kernel, balance := by decide +kernel, final := by decide +kernel }

theorem witness_ArchiveLinkReset_slots :
    offering.archive.up = true ∧ (laneOffers (offering.shelf.get .a)).map Offer.frame = [7]
      ∧ (frameSlot .a 7 offering).isSome = true := by decide +kernel

/-- R120, R155, R159: the reset closes a FAILED last entry with frame 7 waiting; the notice is queued, no alarm is raised. -/
theorem test_link_reset_raises_nothing :
    let s := { offering with shelf := { offering.shelf with a := failedShelf } }
    (closedAtReset .a s).length = 1 ∧ (after .archiveLinkReset s).archive.notices = closedAtReset .a s
      ∧ (after .archiveLinkReset s).alarms = s.alarms ∧ (after .archiveLinkReset s).cond = s.cond
      ∧ ((after .archiveLinkReset s).shelf.get .a).waitingReported = true := by decide +kernel

/-- One slot of lane A at a stage, in a pass whose cursor is below or at it. -/
def staged (x : Stage) (cursor : Option Nat) : State :=
  { holding (slotOf x) offering with
    shelf := linked.shelf, repair := { linked.repair with cursor := { a := cursor, b := none } } }

theorem witness_EngineStarts (x : Stage) (c : Option Nat)
    (h : (x, c) ∈ [(Stage.detecting, none), (.awaitNeighbour, none), (.gradingWait, some 7), (.shelvedHeld, some 7)]) (l : Lane) :
    HeldLaw l (staged x c) := by
  simp only [List.mem_cons, Prod.mk.injEq, List.not_mem_nil, or_false] at h
  rcases h with ⟨rfl, rfl⟩ | ⟨rfl, rfl⟩ | ⟨rfl, rfl⟩ | ⟨rfl, rfl⟩ <;> cases l <;> exact
    { numbers := by decide +kernel, held := by decide +kernel, apart := by decide +kernel, pending := by decide +kernel
      idle := by decide +kernel, cursor := by decide +kernel }

/-- Frame 7 in extraction, its last needed line held; the same frame pending. -/
def extracting7 : State :=
  { staged .extracting none with
    profile := both { profileOn with k := 1, pitch := 32, width := 1, height := 1, baseLines := 1, spatialMax := 1 }
    reg := { a := { regOn with strip := [filledLine 1 1, filledLine 1 0], splices := [0] }, b := regOn } }

/-- A frame pending behind the held one. -/
def pending8 (origin : Position) : PendingFrame :=
  { frame := 8, serial := 0, reg := { (slotOf .shelfWait).reg with origin := origin }, stamp := .neutral }

theorem witness_ExtractionEnd :
    let s := extracting7
    frameSlot .a 7 s = some (slotOf .extracting) ∧ (slotOf .extracting).stage = .extracting
      ∧ stripAnswer (s.reg.get .a).strip (lastNeeded (s.profile.get .a) (slotOf .extracting).reg) ≠ .notYet
      ∧ (0 - 0 : Position).toNat < (16 - 0 : Position).toNat
      ∧ stripAnswer [] (lastNeeded (s.profile.get .a) (slotOf .extracting).reg) = .notYet
      ∧ consecutive [filledLine 1 1, filledLine 1 0] ∧ [filledLine 1 1, filledLine 1 0].length ≤ 8192 := by
  refine ⟨by decide +kernel, by decide, by decide +kernel, by decide, by decide +kernel, ⟨by decide, trivial⟩, by decide⟩

/-- A frame pending behind the held one, free slots or none. -/
def waiting8 (origin : Position) (full : Bool) : State :=
  let s := staged .shelvedHeld (some 7)
  { s with
    lane := { s.lane with a := { s.lane.a with nextFrame := some 9 } }, requests := [.a]
    reg := { a := { regOn with pendingFrame := some (pending8 origin), strip := [filledLine 1 5] }, b := regOn }
    slots := some (slotOf .shelvedHeld) :: List.replicate 23 (if full then some { slotOf .shelfWait with lane := .b } else none) }

theorem witness_SlotsGrantedAndReleased :
    HeldLaw .a (waiting8 0 false) ∧ ((waiting8 0 false).reg.get .a).pendingFrame = some (pending8 0)
      ∧ freeCount (waiting8 0 false) = 23 ∧ heldCount .a (waiting8 0 false) = 1
      ∧ HeldLaw .a (waiting8 0 true) ∧ freeCount (waiting8 0 true) = 0
      ∧ stripAnswer ((waiting8 0 true).reg.get .a).strip 0 = .older
      ∧ stripAnswer ((waiting8 96 true).reg.get .a).strip 6 = .notYet ∧ (waiting8 0 true).requests = [.a] := by
  refine ⟨?_, by decide +kernel, by decide +kernel, by decide +kernel, ?_, by decide +kernel, by decide +kernel,
    by decide +kernel, by decide +kernel⟩ <;> exact
    { numbers := by decide +kernel, held := by decide +kernel, apart := by decide +kernel, pending := by decide +kernel
      idle := by decide +kernel, cursor := by decide +kernel }

/-- Frame 7 acknowledged, its successor settled by the lane's entry to DRAINING, and not settled before it. -/
theorem witness_SlotsGrantedAndReleased_release :
    let s := staged .shelvedHeld (some 7)
    frameSlot .a 7 s = some (slotOf .shelvedHeld) ∧ successorSettled .a 7 s = false
      ∧ successorSettled .a 7 { s with lane := { s.lane with a := { s.lane.a with state := .draining } } } = true := by
  decide +kernel

theorem witness_DefectRecords :
    (recordRuns 20000 picture48).length = 3 ∧ (∀ line ∈ picture48, line.length ≤ 20)
      ∧ (completedRecords { profileOn with irThreshold := 20000 }.irThreshold picture48).length = 3
      ∧ BoxHolds (record1 .keep) ∧ frameSlot .a 6 (staged .detecting none) = none
      ∧ (frameSlot .a 7 (staged .awaitNeighbour none)).isSome = true ∧ (slotOf .detecting).spliced = false := by
  refine ⟨by decide +kernel, by decide +kernel, by decide +kernel, by unfold BoxHolds; decide, by decide +kernel,
    by decide +kernel, by decide⟩

/-- Widths and edges of spatial repair; a neighbour without a record is clean, one with a record that meets the box is not. -/
theorem witness_RepairChoice :
    BoxHolds (record1 .temporal) ∧ (∀ q ∈ ([] : List DefectRecord), ¬BoxesMeet (record1 .temporal) q)
      ∧ BoxesMeet (record1 .temporal) (record1 .keep) ∧ (record1 .spatial).x1 - (record1 .spatial).x0 + 1 = 1
      ∧ (record1 .spatial).x0 ≠ 0 ∧ (record1 .spatial).x1 + 1 = 2 ∧ { record1 .spatial with x0 := 0, x1 := 0 }.x0 = 0 :=
  ⟨by unfold BoxHolds; decide, by nofun, ⟨⟨1, by decide⟩, ⟨0, by decide⟩⟩, by decide, by decide, by decide, by decide⟩

/-- The pictures between the records of a repair. -/
theorem witness_RepairChoice_chain (one : DefectRecord → List (List Pixel) → List (List Pixel) × RecordOutcome)
    (rs : List DefectRecord) (picture : List (List Pixel)) :
    ∃ upTo : Nat → List (List Pixel), upTo 0 = picture ∧ ∀ i r, rs[i]? = some r → upTo (i + 1) = (one r (upTo i)).1 :=
  ⟨fun i => (rs.take i).foldl (fun picture r => (one r picture).1) picture, rfl, fun i r h => by
    show (rs.take (i + 1)).foldl _ _ = _
    rw [List.take_add_one, h, List.foldl_append]; rfl⟩

theorem witness_EngineStarts_candidates :
    Eligible .a (staged .detecting none) 7 ∧ Ready .a { staged .awaitNeighbour none with
        lane := { offering.lane with a := { offering.lane.a with state := .draining } } } 7
      ∧ Candidate .a { staged .gradingWait (some 7) with
        lane := { offering.lane with a := { offering.lane.a with state := .draining } } } 7
      ∧ GoesFirst .a 7 none [] (fun _ => False) := by
  refine ⟨⟨by decide +kernel, fun m h => ?_, by decide +kernel⟩, ⟨by decide +kernel, by decide +kernel, by decide +kernel⟩,
    ⟨by decide +kernel, by decide +kernel, by decide +kernel⟩, .inl fun _ h => h⟩
  obtain ⟨x, hx, hm, -⟩ := frameAt_slot h
  exact Nat.le_of_eq
    (((by decide +kernel : ∀ x ∈ laneSlots .a (staged .detecting none), x.frame = 7) x hx).symm.trans hm)

/-- Frame 7 next at SHELF_WAIT, with room; the gap 9 next; a lane that has drained. -/
theorem witness_HandingOnAndDrain :
    let u := { openShelf with outstanding := [], cursor := some 7 }
    let s := withShelf u (staged .shelfWait (some 7))
    (s.shelf.get .a).current < (s.shelf.get .a).entries.length ∧ (s.shelf.get .a).state = .running
      ∧ (s.shelf.get .a).sending = none ∧ frameSlot .a 7 s = some (slotOf .shelfWait)
      ∧ (entryAt u u.current).status = .opened ∧ (entryAt u u.current).written + (laneOffers u).length < (entryAt u u.current).capacity
      ∧ (laneOffers u).length < 4 ∧ 9 ∈ { u with gaps := [9], cursor := some 9 }.gaps ∧ { u with reoffer := [7] }.reoffer.head? = some 7
      ∧ (let d := { linked with lane := both (inState .draining) }
         (d.lane.get .a).state = .draining ∧ laneSlots .a d = [] ∧ (d.reg.get .a).pendingFrame = none
           ∧ (d.shelf.get .a).gaps = [] ∧ gapHandedOn (d.shelf.get .a) = none) := by decide +kernel

/-- A step that is taken. -/
theorem witness_step : ∃ t, step { linked with pending := [.archiveLinkReset] } = .next t := ⟨_, rfl⟩

theorem witness_SlotLawKept : SlotLaw (holding (slotOf .offered) linked) := by
  refine ⟨by decide +kernel, by decide +kernel, by decide +kernel, by decide +kernel, by decide +kernel, fun l => ?_⟩
  have h : (holding (slotOf .offered) linked).occupancy.get l = { level := .normal, slow := 10, hold := 14 } := by cases l <;> rfl
  rw [h]
  cases l <;> exact ⟨by decide, by decide, by decide, by decide +kernel, by decide +kernel, by decide +kernel⟩

theorem witness_PaceAndPauseKept (l : Lane) :
    PaceLaw l linked ∧ CauseLaw l linked ∧ PauseLaw (linked.shelf.get l) := by
  cases l <;> exact ⟨by unfold PaceLaw; decide +kernel, by unfold CauseLaw; decide +kernel,
    by decide +kernel, by decide +kernel, by decide +kernel, by decide +kernel⟩

/-- A shelf list with an OPEN entry and an offer meets the shelf law. -/
theorem witness_ShelfLawKept : ShelfLaw openShelf := by
  refine ⟨by decide +kernel, by decide +kernel, ?_, by decide +kernel, by decide +kernel, by decide +kernel⟩
  unfold placesAddUp
  decide +kernel

theorem witness_QueuesAndRecordsKept : QueueLaw linked ∧ (∀ l, RecordLaw l linked) ∧ TableLaw linked := by
  refine ⟨?_, fun l => ?_, tableLaw_linked⟩
  · refine ⟨by decide +kernel, by decide +kernel, fun l => by cases l <;> decide +kernel, by decide +kernel⟩
  · cases l <;> (unfold RecordLaw; decide +kernel)

/-- A strip of two lines, its newest the last line completed. -/
theorem witness_StripLawKept :
    StripLaw .a (assembling (some { number := 7, pixels := [] }) (some 6)
      (withReg { regOn with strip := [filledLine 1 6, filledLine 1 5] } (running .running))) := by
  refine ⟨by decide +kernel, fun _ => ⟨⟨by decide +kernel, trivial⟩, by decide +kernel⟩, by decide +kernel⟩

theorem witness_TablesFixedInPass :
    TableLaw linked ∧ ({ running .running with pending := [.archiveLinkReset] }.pending = [.archiveLinkReset])
      ∧ ((running .running).lane.get .a).state ≠ .idle ∧ (∀ b, Instr.archiveLinkReset ≠ .powerOnReset b) :=
  ⟨tableLaw_linked, rfl, by decide +kernel, fun _ => Instr.noConfusion⟩

theorem witness_CellsArriveAsSent :
    (List.replicate 30 blackPixel).length ≤ 30 ∧ cellOf (.queryPart (cmd (List.replicate 240 0#8)))
      = some (0x44#8, cmd (List.replicate 240 0#8)) := by decide +kernel

theorem witness_TableRecordsReadBack :
    profileInRange profileGood = true ∧ profileGood.bands.length = 4 ∧ ruleInRange ruleGood = true
      ∧ cueInRange cueGood = true ∧ monthsInRange 240 = true ∧ monthsInRange 1 = true
      ∧ criterionInRange (some 2097151) 2097151 = true ∧ criterionInRange none 1000 = true := by decide +kernel

theorem witness_InterpolationStaysBetween : 15 < 16 ∧ 0 < 4 ∧ 1 ≤ 1 ∧ 1 ≤ 256 ∧ 256 ≤ 256 := by decide

theorem witness_CurveArithmetic :
    curve63.length = 257 ∧ 255 = (65535#16 : Sample).toNat / 256 ∧ 0 = (65280#16 : Sample).toNat % 256
      ∧ bankAt linked 7 = bankOn := by decide +kernel

theorem witness_Classification : ∀ c : Columns, some c ∈ [none, some { x0 := 3, x1 := 3 : Columns }] → c.x0 ≤ c.x1 := by
  intro c hc
  simp only [List.mem_cons, reduceCtorEq, Option.some.injEq, List.not_mem_nil, or_false, false_or] at hc
  subst hc
  exact Nat.le_refl 3

theorem witness_HousingClass :
    (finalRecord housing96 false recordCleared).numbered = 0 ∧ (finalRecord housing96 false record96).numbered ≠ 0
      ∧ State.reset.housing.m3 = 0 := by decide +kernel

end Sys2Proof.Tests
end

