-- ==== Sys2Proof/Proofs/Classification.lean ====
section
/-! Classification of a kept record (R73 to R78): what band hit and a rule's conditions mean, and what the first match decides. -/

namespace Sys2Proof.Machine

/-! ### Band hit (R75) -/

/-- Two column spans, neither of them empty, share a column where neither ends before the other begins. -/
theorem columns_share_iff {a a' c c' : Nat} (ha : a ≤ a') (hc : c ≤ c') :
    (∃ x, a ≤ x ∧ x ≤ a' ∧ c ≤ x ∧ x ≤ c') ↔ a ≤ c' ∧ c ≤ a' := by
  constructor
  · rintro ⟨x, hax, hxa, hcx, hxc⟩
    exact ⟨Nat.le_trans hax hxc, Nat.le_trans hcx hxa⟩
  · rintro ⟨hac, hca⟩
    exact ⟨max a c, Nat.le_max_left a c, Nat.max_le.mpr ⟨ha, hca⟩, Nat.le_max_right a c, Nat.max_le.mpr ⟨hac, hc⟩⟩

/-- Band hit as a shared column of a present band, no band being empty. -/
theorem bandHit_iff {bands : List (Option Columns)} {x0 x1 : Nat} (hx : x0 ≤ x1)
    (hb : ∀ c : Columns, some c ∈ bands → c.x0 ≤ c.x1) :
    bandHit bands x0 x1 = true ↔ ∃ c : Columns, some c ∈ bands ∧ ∃ x, x0 ≤ x ∧ x ≤ x1 ∧ c.x0 ≤ x ∧ x ≤ c.x1 := by
  have present : bandHit bands x0 x1 = true ↔ ∃ c : Columns, some c ∈ bands ∧ x0 ≤ c.x1 ∧ c.x0 ≤ x1 := by
    simp only [bandHit, List.any_eq_true, Option.any_eq_true, Bool.and_eq_true, decide_eq_true_eq]
    constructor
    · rintro ⟨_, hmem, c, rfl, hc⟩
      exact ⟨c, hmem, hc⟩
    · rintro ⟨c, hmem, hc⟩
      exact ⟨some c, hmem, c, rfl, hc⟩
  rw [present]
  exact exists_congr fun c => and_congr_right fun hmem => (columns_share_iff hx (hb c hmem)).symm

/-! ### A rule's conditions (R76) -/

theorem triHolds_iff (t : Tri) (v : Bool) : triHolds t v = true ↔ (t = .yes → v = true) ∧ (t = .no → v = false) := by
  cases t <;> simp [triHolds]

theorem ruleMatches_iff (r : ClassifierRule) (area width height : Nat) (persistence band : Bool) :
    ruleMatches r area width height persistence band = true ↔
      r.valid = true ∧ r.areaMin ≤ area ∧ area ≤ r.areaMax ∧ r.widthMin ≤ width ∧ width ≤ r.widthMax
        ∧ r.heightMin ≤ height ∧ height ≤ r.heightMax
        ∧ (r.persistence = .yes → persistence = true) ∧ (r.persistence = .no → persistence = false)
        ∧ (r.band = .yes → band = true) ∧ (r.band = .no → band = false) := by
  simp only [ruleMatches, Bool.and_eq_true, decide_eq_true_eq, triHolds_iff, and_assoc]

/-! ### The matching rule and its action (R78) -/

section
variable (rules : List ClassifierRule) (p : Profile) (previous : List DefectRecord) (b : RecordBox)

/-- The rule is tried against the record's own persistence and band hit. -/
theorem classify_rule :
    (classify rules p previous b).rule = rules.findIdx? fun r =>
      ruleMatches r b.area (b.x1 + 1 - b.x0) (b.y1 + 1 - b.y0)
        (classify rules p previous b).persistence (classify rules p previous b).bandHit := rfl

variable {rules p previous b}

theorem classify_action_of_rule_some {i : Nat} {r : ClassifierRule}
    (hrule : (classify rules p previous b).rule = some i) (hr : rules[i]? = some r) :
    (classify rules p previous b).action = r.action := by
  simp only [classify] at hrule ⊢
  simp [hrule, hr]

theorem classify_action_of_rule_none (hrule : (classify rules p previous b).rule = none) :
    (classify rules p previous b).action = p.defaultAction := by
  simp only [classify] at hrule ⊢
  simp [hrule]

/-- The lowest rule that matches gives index and action. -/
theorem classify_of_first_match {holds : ClassifierRule → Prop} {i : Nat} {r : ClassifierRule}
    (hholds : ∀ r, holds r ↔ ruleMatches r b.area (b.x1 + 1 - b.x0) (b.y1 + 1 - b.y0)
      (classify rules p previous b).persistence (classify rules p previous b).bandHit = true)
    (hr : rules[i]? = some r) (hi : holds r) (hfirst : ∀ j r', j < i → rules[j]? = some r' → ¬holds r') :
    (classify rules p previous b).rule = some i ∧ (classify rules p previous b).action = r.action := by
  have hrule : (classify rules p previous b).rule = some i := by
    obtain ⟨hlt, rfl⟩ := List.getElem?_eq_some_iff.mp hr
    rw [classify_rule, List.findIdx?_eq_some_iff_getElem]
    refine ⟨hlt, (hholds _).mp hi, fun j hj hmatch => ?_⟩
    exact hfirst j _ hj (List.getElem?_eq_getElem (Nat.lt_trans hj hlt)) ((hholds _).mpr hmatch)
  exact ⟨hrule, classify_action_of_rule_some hrule hr⟩

/-- Where no rule matches, the profile's default action applies. -/
theorem classify_of_no_match {holds : ClassifierRule → Prop}
    (hholds : ∀ r, holds r ↔ ruleMatches r b.area (b.x1 + 1 - b.x0) (b.y1 + 1 - b.y0)
      (classify rules p previous b).persistence (classify rules p previous b).bandHit = true)
    (hnone : ∀ r ∈ rules, ¬holds r) :
    (classify rules p previous b).rule = none ∧ (classify rules p previous b).action = p.defaultAction := by
  have hrule : (classify rules p previous b).rule = none := by
    rw [classify_rule, List.findIdx?_eq_none_iff]
    exact fun r hr => Bool.eq_false_iff.mpr fun hmatch => hnone r hr ((hholds r).mpr hmatch)
  exact ⟨hrule, classify_action_of_rule_none hrule⟩

end

/-- The kept records are the first 32 in order of completion, each classified by itself (R72, R78). -/
theorem defectList_records (rules : List ClassifierRule) (p : Profile) (previous : List DefectRecord)
    (picture : List (List Pixel)) :
    (defectList rules p previous picture).records
      = ((completedRecords p.irThreshold picture).take 32).map (classify rules p previous) := rfl

/-- Settles O59: band hit by `bandHit_iff`; the statement's conditions are those of `ruleMatches`, and `classify` takes the
first rule that meets them. -/
theorem classification : Obligations.Classification := by
  intro rules p previous b d hx hy hbands hd
  subst hd
  refine ⟨bandHit_iff hx hbands, fun holds hconditions => ?_, defectList_records rules p previous⟩
  have hholds : ∀ r, holds r ↔ ruleMatches r b.area (b.x1 + 1 - b.x0) (b.y1 + 1 - b.y0)
      (classify rules p previous b).persistence (classify rules p previous b).bandHit = true := by
    intro r
    rw [hconditions, ruleMatches_iff, Nat.sub_add_comm hx, Nat.sub_add_comm hy]
  exact ⟨fun i r hr hi hfirst => classify_of_first_match hholds hr hi hfirst, classify_of_no_match hholds⟩

end Sys2Proof.Machine
end

