-- ==== Sys2Proof/Proofs/CurveArithmetic.lean ====
section
/-! Curve arithmetic (R104): a graded sample as a rounded weighted mean of two neighbouring entries, and a graded picture
pixel by pixel. -/

namespace Sys2Proof.Machine

/-! ### Rounded weighted means -/

section
variable {a b t n h : Nat}

theorem min_le_weightedMean (ht : t ≤ n) (hh : h < n) : min a b ≤ (a * (n - t) + b * t + h) / n := by
  rw [Nat.le_div_iff_mul_le (Nat.zero_lt_of_lt hh)]
  calc min a b * n = min a b * (n - t) + min a b * t := by rw [← Nat.mul_add, Nat.sub_add_cancel ht]
    _ ≤ a * (n - t) + b * t :=
      Nat.add_le_add (Nat.mul_le_mul_right _ (Nat.min_le_left a b)) (Nat.mul_le_mul_right _ (Nat.min_le_right a b))
    _ ≤ a * (n - t) + b * t + h := Nat.le_add_right _ h

/-- A rounding term below the divisor never lifts the mean past the greater value. -/
theorem weightedMean_le_max (ht : t ≤ n) (hh : h < n) : (a * (n - t) + b * t + h) / n ≤ max a b := by
  rw [← Nat.lt_succ_iff, Nat.div_lt_iff_lt_mul (Nat.zero_lt_of_lt hh)]
  calc a * (n - t) + b * t + h ≤ max a b * (n - t) + max a b * t + h :=
      Nat.add_le_add_right (Nat.add_le_add (Nat.mul_le_mul_right _ (Nat.le_max_left a b))
        (Nat.mul_le_mul_right _ (Nat.le_max_right a b))) h
    _ = max a b * n + h := by rw [← Nat.mul_add, Nat.sub_add_cancel ht]
    _ < max a b * n + n := Nat.add_lt_add_left hh _
    _ = (max a b + 1) * n := (Nat.succ_mul _ n).symm

end

/-! ### A sample through a curve -/

theorem curveValue_lt (c : List CurveEntry) (i : Nat) : curveValue c i < 2 ^ 16 := BitVec.isLt _

section
variable (c : List CurveEntry) (x : Sample)

/-- The mean lies below 2^16 with the entries, so the sample holds it whole. -/
theorem curveSample_toNat : (curveSample c x).toNat
    = (curveValue c (x.toNat / 256) * (256 - x.toNat % 256) + curveValue c (x.toNat / 256 + 1) * (x.toNat % 256) + 128)
      / 256 := by
  have hf : x.toNat % 256 ≤ 256 := Nat.le_of_lt (Nat.mod_lt _ (by decide))
  have hmax := Nat.max_lt.mpr ⟨curveValue_lt c (x.toNat / 256), curveValue_lt c (x.toNat / 256 + 1)⟩
  exact (BitVec.toNat_ofNat _ 16).trans
    (Nat.mod_eq_of_lt (Nat.lt_of_le_of_lt (weightedMean_le_max hf (by decide)) hmax))

theorem min_le_curveSample :
    min (curveValue c (x.toNat / 256)) (curveValue c (x.toNat / 256 + 1)) ≤ (curveSample c x).toNat := by
  rw [curveSample_toNat]
  exact min_le_weightedMean (Nat.le_of_lt (Nat.mod_lt _ (by decide))) (by decide)

theorem curveSample_le_max :
    (curveSample c x).toNat ≤ max (curveValue c (x.toNat / 256)) (curveValue c (x.toNat / 256 + 1)) := by
  rw [curveSample_toNat]
  exact weightedMean_le_max (Nat.le_of_lt (Nat.mod_lt _ (by decide))) (by decide)

variable {x}

/-- At a multiple of 256 only the lower entry has weight. -/
theorem curveSample_of_mod_eq_zero (hf : x.toNat % 256 = 0) :
    (curveSample c x).toNat = curveValue c (x.toNat / 256) := by
  rw [curveSample_toNat, hf]
  omega

end

/-! ### A picture through a curve set -/

section
variable (s : State) (n : Nat) (picture : List (List Pixel))

@[simp] theorem gradePicture_neutral : gradePicture s .neutral picture = picture := rfl

theorem gradePicture_bank_line_lengths :
    (gradePicture s (.bank n) picture).map List.length = picture.map List.length := by
  simp [gradePicture, Function.comp_def]

/-- The pixel at a place of the graded picture is the graded pixel of that place. -/
theorem gradePicture_bank_pixel (y x : Nat) :
    ((gradePicture s (.bank n) picture)[y]?).bind (fun samples => samples[x]?)
      = ((picture[y]?).bind fun samples => samples[x]?).map (gradePixel (bankAt s n)) := by
  cases hline : picture[y]? <;> simp [gradePicture, hline]

end

/-- Settles O58: a sample's formula and bounds by `curveSample_toNat` and the bounds of a weighted mean; a picture's pixels by
`gradePicture_bank_pixel`. -/
theorem curveArithmetic : Obligations.CurveArithmetic := by
  refine ⟨?samples, ?pictures⟩
  case samples =>
    rintro c x i f - rfl rfl
    have hindex : x.toNat / 256 ≤ 255 := by have := x.isLt; omega
    exact ⟨hindex, curveSample_toNat c x, min_le_curveSample c x, curveSample_le_max c x, curveSample_of_mod_eq_zero c⟩
  case pictures =>
    rintro s n b picture rfl
    refine ⟨gradePicture_neutral s picture, gradePicture_bank_line_lengths s n picture, fun y x p hp => ?_⟩
    rw [gradePicture_bank_pixel, hp]
    rfl

end Sys2Proof.Machine
end

