-- ==== Sys2Proof/Proofs/HousingClass.lean ====
section
/-! The housing class of a finalised record (R163 to R166): when an entry is met, the class as the first entry met, and what
finalisation writes into the record. -/

namespace Sys2Proof.Machine

/-! ### An entry that is met (R163) -/

theorem criterionMet_iff (criterion : Option Nat) (test : Nat → Bool) :
    criterionMet criterion test = true ↔ ∃ v, criterion = some v ∧ test v = true := Option.any_eq_true _ _

theorem entryMet_iff (e : HousingEntry) (c : ConditionRecord) :
    entryMet e c = true ↔
      (∃ v m, e.ratioBelow = some v ∧ c.ratioMin = some m ∧ m < v) ∨ (∃ v, e.permille = some v ∧ v ≤ c.permille)
        ∨ (∃ v, e.lostEpisodes = some v ∧ v ≤ c.lostEpisodes) ∨ (∃ v, e.baseShifts = some v ∧ v ≤ c.baseShifts) := by
  simp only [entryMet, Bool.or_eq_true, criterionMet_iff, Option.any_eq_true, decide_eq_true_eq, exists_and_left, or_assoc]

/-! ### The first entry met (R166) -/

section
variable {t : HousingTable} {c : ConditionRecord}

theorem housingClass_of_no_frames (hn : c.numbered = 0) : housingClass t c = 3 := if_pos hn

theorem housingClass_of_frames (hn : c.numbered ≠ 0) : housingClass t c =
    if entryMet t.e3 c then 3 else if entryMet t.e2 c then 2 else if entryMet t.e1 c then 1 else 0 := if_neg hn

theorem housingClass_of_e3 (hn : c.numbered ≠ 0) (h3 : entryMet t.e3 c = true) : housingClass t c = 3 := by
  rw [housingClass_of_frames hn, if_pos h3]

theorem housingClass_of_e2 (hn : c.numbered ≠ 0) (h3 : ¬entryMet t.e3 c = true) (h2 : entryMet t.e2 c = true) :
    housingClass t c = 2 := by
  rw [housingClass_of_frames hn, if_neg h3, if_pos h2]

theorem housingClass_of_e1 (hn : c.numbered ≠ 0) (h3 : ¬entryMet t.e3 c = true) (h2 : ¬entryMet t.e2 c = true)
    (h1 : entryMet t.e1 c = true) : housingClass t c = 1 := by
  rw [housingClass_of_frames hn, if_neg h3, if_neg h2, if_pos h1]

theorem housingClass_of_none_met (hn : c.numbered ≠ 0) (h3 : ¬entryMet t.e3 c = true) (h2 : ¬entryMet t.e2 c = true)
    (h1 : ¬entryMet t.e1 c = true) : housingClass t c = 0 := by
  rw [housingClass_of_frames hn, if_neg h3, if_neg h2, if_neg h1]

end

/-! ### What finalisation writes (R165) -/

/-- A table never written holds 0 months for every class. -/
theorem monthsOf_housingOn (h : Nat) : monthsOf housingOn h = 0 := by
  match h with
  | 0 => rfl
  | 1 => rfl
  | 2 => rfl
  | _ + 3 => rfl

section
variable (t : HousingTable) (aborted : Bool) (c : ConditionRecord)

@[simp] theorem finalRecord_numbered : (finalRecord t aborted c).numbered = c.numbered := rfl
@[simp] theorem finalRecord_ratioMin : (finalRecord t aborted c).ratioMin = c.ratioMin := rfl
@[simp] theorem finalRecord_lostEpisodes : (finalRecord t aborted c).lostEpisodes = c.lostEpisodes := rfl
@[simp] theorem finalRecord_baseShifts : (finalRecord t aborted c).baseShifts = c.baseShifts := rfl

theorem finalRecord_noFrames : (finalRecord t aborted c).noFrames = decide (c.numbered = 0) := rfl

theorem finalRecord_permille : (finalRecord t aborted c).permille
    = if c.numbered = 0 then 0 else 1000 * c.partialFrames / c.numbered := rfl

/-- The class is computed with the permille already written, so the final record has the class of its own fields. -/
theorem finalRecord_housing :
    (finalRecord t aborted c).housing = some (housingClass t (finalRecord t aborted c)) := rfl

theorem finalRecord_months :
    (finalRecord t aborted c).months = some (monthsOf t (housingClass t (finalRecord t aborted c))) := rfl

variable {t aborted c}

/-- The class and its entry's months go together. -/
theorem finalRecord_of_housingClass {h : Nat} (hclass : housingClass t (finalRecord t aborted c) = h) :
    (finalRecord t aborted c).housing = some h ∧ (finalRecord t aborted c).months = some (monthsOf t h) := by
  rw [finalRecord_housing, finalRecord_months, hclass]
  exact ⟨rfl, rfl⟩

theorem finalRecord_of_no_frames (hn : c.numbered = 0) :
    (finalRecord t aborted c).housing = some 3 ∧ (finalRecord t aborted c).noFrames = true
      ∧ (finalRecord t aborted c).months = some t.m3 ∧ (finalRecord t aborted c).permille = 0 := by
  have hnumbered : (finalRecord t aborted c).numbered = 0 := by rw [finalRecord_numbered, hn]
  obtain ⟨hhousing, hmonths⟩ := finalRecord_of_housingClass (housingClass_of_no_frames hnumbered)
  rw [finalRecord_noFrames, finalRecord_permille]
  exact ⟨hhousing, decide_eq_true hn, hmonths, if_pos hn⟩

theorem finalRecord_of_frames (hn : c.numbered ≠ 0) :
    (finalRecord t aborted c).noFrames = false
      ∧ (finalRecord t aborted c).permille = 1000 * c.partialFrames / c.numbered := by
  rw [finalRecord_noFrames, finalRecord_permille]
  exact ⟨decide_eq_false hn, if_neg hn⟩

end

/-- Settles O60: the statement's criteria are those of `entryMet` on the final record, and each place of the chain of entries
is one lemma about `housingClass`. The name `housingClass` itself is the model's function. -/
theorem Finalisation.housingClass : Obligations.HousingClass := by
  rintro t aborted c r met rfl hcriteria
  have hmet : ∀ e, met e ↔ entryMet e (finalRecord t aborted c) = true := by
    intro e
    rw [hcriteria, entryMet_iff, finalRecord_ratioMin, finalRecord_lostEpisodes, finalRecord_baseShifts]
  simp only [hmet]
  refine ⟨finalRecord_of_no_frames, fun hn => ?frames, ?neverWritten⟩
  case frames =>
    obtain ⟨hnoFrames, hpermille⟩ := finalRecord_of_frames (t := t) (aborted := aborted) hn
    rw [← finalRecord_numbered t aborted] at hn
    refine ⟨hnoFrames, hpermille, ?e3, ?e2, ?e1, ?noneMet⟩
    case e3 => exact fun h3 => finalRecord_of_housingClass (housingClass_of_e3 hn h3)
    case e2 => exact fun h3 h2 => finalRecord_of_housingClass (housingClass_of_e2 hn h3 h2)
    case e1 => exact fun h3 h2 h1 => finalRecord_of_housingClass (housingClass_of_e1 hn h3 h2 h1)
    case noneMet => exact fun h3 h2 h1 => finalRecord_of_housingClass (housingClass_of_none_met hn h3 h2 h1)
  case neverWritten =>
    rintro rfl
    rw [finalRecord_months]
    exact congrArg some (monthsOf_housingOn _)

end Sys2Proof.Machine
end
